-- ==== Sys2Proof/Word.lean ====
section
/-! DEFINITION. The word types of the CQ-240: bytes, cue values, times and arrival indices. -/

namespace Sys2Proof

/-- One byte of a frame (00_scope, Conventions; R171). -/
abbrev Byte := BitVec 8

/-- A signed 16-bit cue value, -32768..32767, read with `toInt` (00_scope, Terms: Cue value). -/
abbrev Cue := BitVec 16

/-- An unsigned 16-bit field: a step number, a counter, a latency in µs. -/
abbrev Half := BitVec 16

/-- A reading of the timebase, a 32-bit count of µs that wraps (00_scope, Conventions: Time). -/
abbrev Time := BitVec 32

/-- An arrival index, 32-bit (R7). -/
abbrev ArrivalIndex := BitVec 32

/-- The number of an output port, O0..O5. -/
abbrev PortId := Fin 6

/-- The index of a route entry, 0..95. -/
abbrev EntryId := Fin 96

/-- The bytes of a frame between its START and its END symbol (07, section 7.2). -/
abbrev Frame := List Byte

end Sys2Proof
end

