-- ==== Sys2Proof/Syntax.lean ====
section
/-! DEFINITION. The commands of the CQ-240: one constructor for each row of spec/opcode_table.json. -/

namespace Sys2Proof

/-- A lane pair, named by its partner (07, opening table). -/
inductive Lane where
  | upstream
  | thru
  | output (p : PortId)
  deriving DecidableEq, Repr

/-- What a receive lane presents at one symbol time: one of the 256 data symbols, one of the four control symbols,
a line code that is none of these, or no signal (07, section 7.1). -/
inductive Symbol where
  | data (b : Byte)
  | startSym
  | endSym
  | abortSym
  | idleSym
  | invalid
  | noSignal
  deriving DecidableEq, Repr

/-- The commands: the part's steps, each whole and indivisible (95_what_each_step_holds.md). -/
inductive Instr where
  /-- POWER_ON_RESET: power-on, or the end of a pin reset, with the level of the straps UA3..UA0 (R21, R131). -/
  | powerOnReset (straps : BitVec 4)
  /-- LINK_ALIVE: the fourth consecutive IDLE symbol of a DOWN receive lane (R124). -/
  | linkAlive (lane : Lane)
  /-- LOCK_LOSS: the sixteenth consecutive symbol time without a valid symbol; `sym` is what that time presents (R124). -/
  | lockLoss (lane : Lane) (sym : Symbol)
  /-- CODE_ERROR: an invalid code on an ALIVE receive lane (R123). -/
  | codeError (lane : Lane)
  /-- FRAME_ABORTED: an ABORT symbol within a frame (R126). -/
  | frameAborted (lane : Lane)
  /-- BAD_FRAME_SYMBOL: a START or IDLE symbol within a frame, or a 257th byte (R126). -/
  | badFrameSymbol (lane : Lane) (sym : Symbol)
  /-- FRAME_CHECK_FAILED: the END of a frame that fails a check of R128. -/
  | frameCheckFailed (lane : Lane)
  /-- CUE_FRAME: the END of a good CUE frame on the upstream receive lane (R1, R2). -/
  | cueFrame
  /-- THRU_TRANSMIT_END: the end of a transmission on the thru transmit lane (R133). -/
  | thruTransmitEnd
  /-- SOURCE_TIMEOUT_EXPIRY: the source timeout expires (R12). -/
  | sourceTimeoutExpiry
  /-- REQUEST_FRAME: the END of a good REQUEST frame on the upstream receive lane (R132, R142). -/
  | requestFrame
  /-- BATCH_TIMEOUT: 10000 µs after the start of the open batch (R144). -/
  | batchTimeout
  /-- REPLY_FRAME: the END of a good REPLY frame on the thru receive lane (R134). -/
  | replyFrame
  /-- UPSTREAM_TRANSMIT_END: the end of a reply's transmission on the upstream lane (R137). -/
  | upstreamTransmitEnd
  /-- PACE_FRAME: the END of a good PACE frame on the receive lane of an output pair (R87, R135). -/
  | paceFrame (port : PortId)
  /-- INTERVAL_TIMER_EXPIRY: the expiry of a port's interval timer (R93). -/
  | intervalTimerExpiry (port : PortId)
  /-- DEST_TRANSMISSION_END: the end of a port's transmission (R89). -/
  | destTransmissionEnd (port : PortId)
  /-- SYMBOL_TIME: a receive lane presents a symbol, an invalid code or no signal (R123, R124, R126). -/
  | symbolTime (lane : Lane) (sym : Symbol)
  deriving DecidableEq, Repr

end Sys2Proof
end

