-- ==== Sys2Proof/WellFormed.lean ====
section
/-! DEFINITION. Which commands name an event the spec describes. -/

namespace Sys2Proof

/-- A valid symbol of the line code: data or control (R124). -/
def Symbol.valid : Symbol → Bool
  | .data _ | .startSym | .endSym | .abortSym | .idleSym => true
  | .invalid | .noSignal => false

/-- The symbols that can end a frame as a BAD_FRAME_SYMBOL: START, IDLE, or a byte too many (R126). -/
def Symbol.canBreakFrame : Symbol → Bool
  | .data _ | .startSym | .idleSym => true
  | .endSym | .abortSym | .invalid | .noSignal => false

/-- A command is well formed when its operands can take part in its event. -/
def Instr.wellFormed : Instr → Bool
  | .lockLoss _ sym => !sym.valid
  | .badFrameSymbol _ sym => sym.canBreakFrame
  | .powerOnReset _ => true
  | .linkAlive _ => true
  | .codeError _ => true
  | .frameAborted _ => true
  | .frameCheckFailed _ => true
  | .cueFrame => true
  | .thruTransmitEnd => true
  | .sourceTimeoutExpiry => true
  | .requestFrame => true
  | .batchTimeout => true
  | .replyFrame => true
  | .upstreamTransmitEnd => true
  | .paceFrame _ => true
  | .intervalTimerExpiry _ => true
  | .destTransmissionEnd _ => true
  | .symbolTime _ _ => true

/-- What a receive command presents on which lane; none for a reset and for the part's own timed events. -/
def Instr.stimulus : Instr → Option (Lane × Symbol)
  | .linkAlive l => some (l, .idleSym)
  | .lockLoss l sym => some (l, sym)
  | .codeError l => some (l, .invalid)
  | .frameAborted l => some (l, .abortSym)
  | .badFrameSymbol l sym => some (l, sym)
  | .frameCheckFailed l => some (l, .endSym)
  | .cueFrame => some (.upstream, .endSym)
  | .requestFrame => some (.upstream, .endSym)
  | .replyFrame => some (.thru, .endSym)
  | .paceFrame p => some (.output p, .endSym)
  | .symbolTime l sym => some (l, sym)
  | .powerOnReset _ => none
  | .thruTransmitEnd => none
  | .sourceTimeoutExpiry => none
  | .batchTimeout => none
  | .upstreamTransmitEnd => none
  | .intervalTimerExpiry _ => none
  | .destTransmissionEnd _ => none

end Sys2Proof
end

