-- ==== Sys2Proof/Decode.lean ====
section
/-! DEFINITION. The table of this block gives no row any bits, so no word spells a command. -/

namespace Sys2Proof

/-- The command that a word spells by the bits of spec/opcode_table.json: no row gives bits ("fields" is empty in
every row and no row has "fixed"), so no word spells one (log 18). -/
def decodeTableWord (_nbits _w : Nat) : Option Instr := none

end Sys2Proof
end

