-- ==== Sys2Proof/Config.lean ====
section
/-! DEFINITION. What the part fixes by its construction, and the one free value of the model. -/

namespace Sys2Proof.Config

/-- The records the history ring can hold (R9). -/
def ringDepth : Nat := 64

/-- The frames each of the two reply queues can hold (R134, R136). -/
def replyPlaces : Nat := 4

/-- The frames a batch can hold (R142). -/
def batchFrames : Nat := 4

/-- The batch timeout in µs (R144). -/
def batchTimeout : Nat := 10000

/-- The greatest target lag in frames (R73). -/
def maxLag : Nat := 48

/-- The greatest number of bytes between START and END (R126). -/
def maxFrame : Nat := 256

/-- The greatest payload of a reply (R148). -/
def maxReply : Nat := 250

/-- The reading at which an elapsed time of R14 is held. -/
def elapsedMax : Nat := 4294967295

/-- The magnitude at which a residue is limited, 2^30 (R54). -/
def residueMax : Int := 1073741824

/-- DESIGN CHOICE (log 3). FREE VALUE: which of several timed events due at one instant an idle part takes first.
The spec allows every order (R13, R90, R93, R94, R138), so nothing is known of this function. -/
opaque choice : Nat → Nat

end Sys2Proof.Config
end

