-- ==== Sys2Proof/Machine/State.lean ====
section
/-! DEFINITION. The state of the CQ-240 as plain data, its power-on values, and the reasons a step can stop. -/

namespace Sys2Proof.Machine

/-! ## Cue intake (chapter 01) -/

/-- A stored time whose elapsed time is read by R14: `held` once the elapsed time has reached 4294967295 µs (log 9). -/
structure Stamp where
  at_ : Time
  held : Bool := false
  deriving DecidableEq, Repr

/-- A frame record of the history ring (R8): slots 0..n-1 are present, n the length of `values`. -/
structure Record where
  index : ArrivalIndex
  step : Half
  time : Time
  values : List Cue
  deriving DecidableEq, Repr

/-- The source state (1.4) with the times it carries: the time of the last accepted frame, and the silence start. -/
inductive SourceState where
  | absent
  | live (last : Stamp)
  | silent (last since : Stamp)
  deriving DecidableEq, Repr

/-- The cue intake (01, opening table). The ring is newest first, so a record's position is its age (R7). -/
structure Intake where
  ring : List Record
  nextIndex : ArrivalIndex
  ni : ArrivalIndex
  newestStep : Half
  source : SourceState
  e16 : BitVec 32
  nominal : Half
  timeout : BitVec 8
  deriving DecidableEq, Repr

/-- The intake after power-on (R21). -/
def Intake.powerOn : Intake :=
  { ring := [], nextIndex := 1, ni := 0, newestStep := 0, source := .absent,
    e16 := 16000, nominal := 1000, timeout := 20 }

/-! ## Route table (chapter 02) -/

/-- The source of a route entry (R22). -/
inductive EntrySource where
  | slot (s : Fin 48)
  | constant
  deriving DecidableEq, Repr

/-- The kinds of route entry (R23). -/
inductive Kind where
  | level
  | delta
  | peak
  deriving DecidableEq, Repr

/-- The averaging window W of a LEVEL entry (R23, R29). -/
inductive Averaging where
  | w1
  | w2
  | w4
  | w8
  deriving DecidableEq, Repr

/-- A route entry with its eleven fields (2.1); lo and hi are one row of that table. -/
structure RouteEntry where
  source : EntrySource
  constant : Cue
  kind : Kind
  window : Averaging
  invert : Bool
  mirrorSensitive : Bool
  gain : BitVec 8
  curve : Option (Fin 8)
  lo : Cue
  hi : Cue
  neutral : Cue
  slew : BitVec 15
  deriving DecidableEq, Repr

/-- The power-on value of every entry (2.1, R41). -/
def RouteEntry.powerOn : RouteEntry :=
  { source := .slot 0, constant := 0, kind := .level, window := .w1, invert := false, mirrorSensitive := false,
    gain := 0, curve := none, lo := 0x8000, hi := 0x7FFF, neutral := 0, slew := 0 }

/-- An entry's runtime record (2.3). -/
structure Runtime where
  residue : BitVec 32
  last : Cue
  carry : Option Cue
  deriving DecidableEq, Repr

/-- A record reset to a given neutral (R31). -/
def Runtime.resetTo (neutral : Cue) : Runtime := { residue := 0, last := neutral, carry := none }

/-- A curve: its points y0..y8 (R39). -/
structure Curve where
  points : Vector Cue 9
  deriving DecidableEq, Repr

/-- The power-on points of R40. -/
def Curve.powerOn : Curve :=
  { points := #v[0x8000, 0xA000, 0xC000, 0xE000, 0x0000, 0x2000, 0x4000, 0x6000, 0x7FFF] }

/-- The route table. -/
structure RouteTable where
  entries : Vector RouteEntry 96
  records : Vector Runtime 96
  curves : Vector Curve 8
  deriving DecidableEq, Repr

/-- The route table after power-on (R41). -/
def RouteTable.powerOn : RouteTable :=
  { entries := Vector.replicate 96 .powerOn, records := Vector.replicate 96 (.resetTo 0),
    curves := Vector.replicate 8 .powerOn }

/-! ## Transmit lanes (R125) -/

/-- A frame in transmission: its bytes, the time of its START symbol and its end time (R95, R125). -/
structure Transmission where
  bytes : Frame
  first : Time
  ends : Time
  deriving DecidableEq, Repr

/-- A transmit lane: idle or sending, and whether the one ABORT symbol of a cut is on the lane in this µs (log 10). -/
structure Transmitter where
  sending : Option Transmission
  abort : Bool
  deriving DecidableEq, Repr

/-- An idle transmit lane, sending IDLE (R140). -/
def Transmitter.idle : Transmitter := { sending := none, abort := false }

/-! ## Output ports (chapters 04 and 05) -/

/-- The port roles. -/
inductive Role where
  | vision
  | sound
  | cab
  deriving DecidableEq, Repr

/-- The pacing modes (5.4). -/
inductive Pacing where
  | peer
  | timer
  | locked
  deriving DecidableEq, Repr

/-- The lag modes. -/
inductive LagMode where
  | manual
  | auto
  deriving DecidableEq, Repr

/-- The port states (5.2). -/
inductive PortState where
  | off
  | wait
  | run
  | hold
  | fade
  | settled
  deriving DecidableEq, Repr

/-- A port's configuration (5.1). -/
structure PortConfig where
  enable : Bool
  role : Role
  first : BitVec 8
  count : BitVec 8
  pacing : Pacing
  k : BitVec 3
  n : BitVec 8
  mirror : Bool
  scale : BitVec 8
  lagMode : LagMode
  manualLag : BitVec 8
  trim : Cue
  holdTime : BitVec 8
  fadeStep : BitVec 15
  deriving DecidableEq, Repr

/-- The power-on configuration (5.1). -/
def PortConfig.powerOn : PortConfig :=
  { enable := false, role := .vision, first := 0, count := 0, pacing := .peer, k := 7, n := 7, mirror := false,
    scale := 1, lagMode := .manual, manualLag := 0, trim := 0, holdTime := 10, fadeStep := 256 }

/-- A pending pace mark (R88): the two flags of the WANT frame it stands for. -/
inductive PaceMark where
  | wantAdvance
  | want
  deriving DecidableEq, Repr

/-- The content of a DEST frame other than a resend, as the last-frame record holds it (R96, R98); the value count is
the length of `values`. -/
structure DestFrame where
  seq : BitVec 8
  state : PortState
  lost : Bool
  sat : Bool
  lagWalk : Bool
  targetStep : Half
  lag : Nat
  values : List Cue
  deriving DecidableEq, Repr

/-- The nine counters of a port (R166). -/
structure PortCounters where
  emitted : Half := 0
  skipped : Half := 0
  repeated : Half := 0
  paceOverruns : Half := 0
  timerOverruns : Half := 0
  historyLost : Half := 0
  satCompositions : Half := 0
  residueSats : Half := 0
  laneDowns : Half := 0
  deriving DecidableEq, Repr

/-- The seven conditions of a port (R166, R177). -/
structure PortConditions where
  paceOverrun : Bool := false
  timerOverrun : Bool := false
  historyLost : Bool := false
  saturated : Bool := false
  residueSaturated : Bool := false
  lagLimited : Bool := false
  laneDown : Bool := false
  deriving DecidableEq, Repr

/-- An output port: its configuration and runtime (5.1, 5.2), its counters and conditions (9.2). -/
structure Port where
  cfg : PortConfig
  state : PortState
  lag : Nat
  latency : Option Half
  mark : Option PaceMark
  timer : Option Time
  seq : BitVec 8
  consumed : Option ArrivalIndex
  lastFrame : Option DestFrame
  tx : Transmitter
  counters : PortCounters
  conditions : PortConditions
  deriving DecidableEq, Repr

/-- A port after power-on (R81, R106). -/
def Port.powerOn : Port :=
  { cfg := .powerOn, state := .off, lag := 0, latency := none, mark := none, timer := none, seq := 0,
    consumed := none, lastFrame := none, tx := .idle, counters := {}, conditions := {} }

/-! ## Cue link (chapter 07) -/

/-- The link state of a receive lane with the run each state keeps (R124). -/
inductive LinkState where
  | down (idleRun : Nat)
  | alive (faultRun : Nat)
  deriving DecidableEq, Repr

/-- The five counters of a receive lane (R164). -/
structure LaneCounters where
  crcErrors : Half := 0
  codeErrors : Half := 0
  badFrames : Half := 0
  abortedFrames : Half := 0
  lockLosses : Half := 0
  deriving DecidableEq, Repr

/-- A receive lane: link state, frame assembler (none between frames, else the bytes so far) and counters. -/
structure RxLane where
  link : LinkState
  asm : Option Frame
  counters : LaneCounters
  deriving DecidableEq, Repr

/-- A receive lane after power-on (R124, R140). -/
def RxLane.powerOn : RxLane := { link := .down 0, asm := none, counters := {} }

/-- The queue the upstream arbiter served last (R137). -/
inductive Served where
  | own
  | ret
  deriving DecidableEq, Repr

/-- The link interface. Each queue holds the frame in transmission first, until its END has been sent. -/
structure Link where
  lanes : Vector RxLane 8
  upTx : Transmitter
  thruTx : Transmitter
  forwarding : List Frame
  own : List Frame
  returns : List Frame
  lastServed : Served
  deriving DecidableEq, Repr

/-- The link interface after power-on (R140). -/
def Link.powerOn : Link :=
  { lanes := Vector.replicate 8 .powerOn, upTx := .idle, thruTx := .idle, forwarding := [], own := [], returns := [],
    lastServed := .ret }

/-! ## Management executor (chapter 08) -/

/-- How a request frame is addressed (R141). -/
inductive Addressing where
  | unit
  | broadcast
  deriving DecidableEq, Repr

/-- The executor's mode with what it holds in that mode (R141); the frames of an open batch in order of completion. -/
inductive Executor where
  | idle
  | opened (tag : BitVec 8) (addr : Addressing) (start : Time) (frames : List Frame)
  | draining (tag : BitVec 8) (addr : Addressing)
  deriving DecidableEq, Repr

/-! ## Condition and counter block (chapter 09) -/

/-- The eight part counters (R165). -/
structure PartCounters where
  cueAccepted : Half := 0
  stepStale : Half := 0
  gapSteps : Half := 0
  silentEntries : Half := 0
  batchFaults : Half := 0
  requestsRefused : Half := 0
  requestsDropped : Half := 0
  returnsDropped : Half := 0
  deriving DecidableEq, Repr

/-- The seven part conditions (R158). -/
structure PartConditions where
  linkError : Bool := false
  stepStale : Bool := false
  stepGap : Bool := false
  sourceSilent : Bool := false
  batchFault : Bool := false
  refused : Bool := false
  dropped : Bool := false
  deriving DecidableEq, Repr

/-! ## The whole part -/

/-- The part's state, and the two fields of the model's own: the command queue and the counter of the free choices. -/
structure State where
  /-- The commands that wait, first in, first out (the host's queue). -/
  pending : List Instr
  /-- The MODEL's own counter of free choices taken (log 3). -/
  choices : Nat
  /-- The timebase. -/
  now : Time
  /-- The unit address sampled from the straps (R131). -/
  unitAddress : BitVec 4
  intake : Intake
  routes : RouteTable
  ports : Vector Port 6
  link : Link
  executor : Executor
  counters : PartCounters
  conditions : PartConditions
  deriving DecidableEq, Repr

/-- The part after power-on or pin reset with the given straps (R21, R41, R81, R106, R131, R140, R141, R170). -/
def State.powerOn (straps : BitVec 4) : State :=
  { pending := [], choices := 0, now := 0, unitAddress := straps, intake := .powerOn, routes := .powerOn,
    ports := Vector.replicate 6 .powerOn, link := .powerOn, executor := .idle, counters := {}, conditions := {} }

/-- The machine right after reset. DESIGN CHOICE (log 1): the straps are sampled as 0, since the spec gives no level. -/
def State.reset : State := State.powerOn 0

/-- Reasons to stop with a fault. There is none: the spec gives every event an effect in every state (safe: nothing
is stopped that could go on). -/
inductive Fault where
  deriving DecidableEq, Repr

/-- Reasons to refuse a command. -/
inductive Refusal where
  /-- Raised by an arm of `exec` whose command has no meaning yet (safe); no arm raises it in this model. -/
  | notModelled (mnemonic : String)
  deriving DecidableEq, Repr

end Sys2Proof.Machine
end

