-- ==== Sys2Proof/Machine/Ops.lean ====
section
/-! DEFINITION. The shared operations: access to lanes and ports, times, clamping, and transmit lanes. -/

namespace Sys2Proof.Machine

/-! ## Exact arithmetic -/

/-- To clamp a value to a range: below it the lower end, above it the upper end (00_scope, Conventions). -/
def clampInt (lo hi x : Int) : Int := if x < lo then lo else if hi < x then hi else x

/-- The signed 16-bit value of an exact result. -/
def toCue (x : Int) : Cue := BitVec.ofInt 16 x

/-! ## Times (R14, and the end times of R92, R95) -/

/-- The µs from `t` to `now`, modulo 2^32 (00_scope, Conventions: Time). -/
def since (now t : Time) : Nat := (now - t).toNat

/-- An instant has been reached: `now` is at it or at most 2^31 - 1 µs past it (DEDUCED, log 8). -/
def reached (now t : Time) : Bool := since now t < 2147483648

/-- An elapsed time of R14: held at 4294967295 µs once it has reached that value. -/
def Stamp.elapsed (now : Time) (t : Stamp) : Nat := if t.held then Config.elapsedMax else since now t.at_

/-- The stamp of an event taken now. -/
def Stamp.mark (now : Time) : Stamp := { at_ := now, held := false }

/-- The stamp as the timebase comes to read `now` (R14; DEDUCED, log 9). -/
def Stamp.advance (now : Time) (t : Stamp) : Stamp :=
  { t with held := t.held || since now t.at_ == Config.elapsedMax }

/-! ## Receive lanes -/

/-- The position of a lane, in the order Read Counters carries them (R160). -/
def laneIndex : Lane → Fin 8
  | .upstream => 0
  | .thru => 1
  | .output p => ⟨p.val + 2, by omega⟩

/-- The receive side of a lane pair. -/
def State.lane (s : State) (l : Lane) : RxLane := s.link.lanes[laneIndex l]

/-- Change one receive lane. -/
def State.updLane (s : State) (l : Lane) (f : RxLane → RxLane) : State :=
  { s with link := { s.link with lanes := s.link.lanes.set (laneIndex l) (f (s.lane l)) } }

/-- The lane is ALIVE. -/
def RxLane.alive (r : RxLane) : Bool :=
  match r.link with
  | .alive _ => true
  | .down _ => false

/-! ## Ports -/

/-- Change one port. -/
def State.updPort (s : State) (p : PortId) (f : Port → Port) : State :=
  { s with ports := s.ports.set p (f s.ports[p]) }

/-- The port is enabled; a port that is not is in OFF (R83). -/
def Port.enabled (p : Port) : Bool := p.cfg.enable

/-- The transmitter is sending. -/
def Transmitter.busy (t : Transmitter) : Bool := t.sending.isSome

/-- The interval (N + 1) × 2^k in µs (R91). -/
def PortConfig.interval (c : PortConfig) : Nat := (c.n.toNat + 1) * 2 ^ c.k.toNat

/-- The entries of a port's window in index order: first..first + count - 1 (R34). -/
def PortConfig.window (c : PortConfig) : List EntryId :=
  (List.range c.count.toNat).filterMap fun j =>
    if h : c.first.toNat + j < 96 then some ⟨c.first.toNat + j, h⟩ else none

/-- The number of frames averaged (R23). -/
def Averaging.frames : Averaging → Nat
  | .w1 => 1
  | .w2 => 2
  | .w4 => 4
  | .w8 => 8

/-! ## Transmit lanes (R95, R125) -/

/-- Begin a frame at this event. It is sent at once, or after the ABORT symbol of a cut made at the same instant, and
takes one µs for START, each byte and END (R95, R125). -/
def Transmitter.begin (now : Time) (bytes : Frame) (t : Transmitter) : Transmitter :=
  let first := if t.abort then now + 1 else now
  { t with sending := some { bytes := bytes, first := first, ends := first + BitVec.ofNat 32 (bytes.length + 2) } }

/-- Cut a frame in transmission: one ABORT symbol in its place, and idle at this event (R125). DESIGN CHOICE (log 19): where
the frame was begun after another cut of the same instant and its START has not been sent, the one ABORT symbol of that
instant stands for both cuts. -/
def Transmitter.cut (t : Transmitter) : Transmitter :=
  if t.busy then { sending := none, abort := true } else t

/-- The end of a transmission: idle (R89, R133, R137). -/
def Transmitter.finish (t : Transmitter) : Transmitter := { t with sending := none }

/-- The transmission's end time has been reached. -/
def Transmitter.ended (now : Time) (t : Transmitter) : Bool :=
  match t.sending with
  | none => false
  | some x => reached now x.ends

/-- The symbol a transmit lane sends in the µs that begins at `now` (R125): START, the bytes, END of a frame, the
ABORT symbol of a cut, and IDLE otherwise. -/
def Transmitter.symbol (now : Time) (t : Transmitter) : Symbol :=
  if t.abort then .abortSym
  else
    match t.sending with
    | none => .idleSym
    | some x =>
      let i := since now x.first
      if i = 0 then .startSym
      else if i ≤ x.bytes.length then .data (x.bytes.getD (i - 1) 0)
      else if i = x.bytes.length + 1 then .endSym
      else .idleSym

/-- The transmit side of a lane pair. -/
def State.tx (s : State) : Lane → Transmitter
  | .upstream => s.link.upTx
  | .thru => s.link.thruTx
  | .output p => s.ports[p].tx

/-- What the outside sees on a transmit lane in this µs (R125). -/
def State.txSymbol (s : State) (l : Lane) : Symbol := (s.tx l).symbol s.now

end Sys2Proof.Machine
end

