-- ==== Sys2Proof/Machine/Flags.lean ====
section
/-! DEFINITION. Counters, conditions and the bytes that carry conditions (chapter 09, R177, R178). -/

namespace Sys2Proof.Machine

/-- A report adds a number to a 16-bit counter, which saturates at 65535 (R162). -/
def addSat (c : Half) (n : Nat) : Half := BitVec.ofNat 16 (min (c.toNat + n) 65535)

/-! ## Lane counters (R164); LINK_ERROR is raised whatever the counter (R123, R163) -/

def State.raiseLinkError (s : State) : State := { s with conditions := { s.conditions with linkError := true } }

def State.countCrcError (l : Lane) (s : State) : State :=
  (s.updLane l fun r => { r with counters := { r.counters with crcErrors := addSat r.counters.crcErrors 1 } }).raiseLinkError

def State.countCodeError (l : Lane) (s : State) : State :=
  (s.updLane l fun r => { r with counters := { r.counters with codeErrors := addSat r.counters.codeErrors 1 } }).raiseLinkError

def State.countBadFrame (l : Lane) (s : State) : State :=
  (s.updLane l fun r => { r with counters := { r.counters with badFrames := addSat r.counters.badFrames 1 } }).raiseLinkError

/-- ABORTED_FRAMES raises nothing (R126). -/
def State.countAborted (l : Lane) (s : State) : State :=
  s.updLane l fun r => { r with counters := { r.counters with abortedFrames := addSat r.counters.abortedFrames 1 } }

/-- LOCK_LOSSES raises nothing (R124). -/
def State.countLockLoss (l : Lane) (s : State) : State :=
  s.updLane l fun r => { r with counters := { r.counters with lockLosses := addSat r.counters.lockLosses 1 } }

/-! ## Part counters and conditions (R165) -/

def State.countCueAccepted (s : State) : State :=
  { s with counters := { s.counters with cueAccepted := addSat s.counters.cueAccepted 1 } }

def State.countStepStale (s : State) : State :=
  { s with counters := { s.counters with stepStale := addSat s.counters.stepStale 1 },
           conditions := { s.conditions with stepStale := true } }

def State.countGap (n : Nat) (s : State) : State :=
  { s with counters := { s.counters with gapSteps := addSat s.counters.gapSteps n },
           conditions := { s.conditions with stepGap := true } }

def State.countSilent (s : State) : State :=
  { s with counters := { s.counters with silentEntries := addSat s.counters.silentEntries 1 },
           conditions := { s.conditions with sourceSilent := true } }

def State.countBatchFault (s : State) : State :=
  { s with counters := { s.counters with batchFaults := addSat s.counters.batchFaults 1 },
           conditions := { s.conditions with batchFault := true } }

def State.countRefused (s : State) : State :=
  { s with counters := { s.counters with requestsRefused := addSat s.counters.requestsRefused 1 },
           conditions := { s.conditions with refused := true } }

def State.countRequestDropped (s : State) : State :=
  { s with counters := { s.counters with requestsDropped := addSat s.counters.requestsDropped 1 },
           conditions := { s.conditions with dropped := true } }

def State.countReturnDropped (s : State) : State :=
  { s with counters := { s.counters with returnsDropped := addSat s.counters.returnsDropped 1 },
           conditions := { s.conditions with dropped := true } }

/-! ## Port counters and conditions (R166) -/

def Port.countEmitted (p : Port) : Port :=
  { p with counters := { p.counters with emitted := addSat p.counters.emitted 1 } }

def Port.countSkipped (p : Port) : Port :=
  { p with counters := { p.counters with skipped := addSat p.counters.skipped 1 } }

def Port.countRepeated (p : Port) : Port :=
  { p with counters := { p.counters with repeated := addSat p.counters.repeated 1 } }

def Port.countPaceOverrun (p : Port) : Port :=
  { p with counters := { p.counters with paceOverruns := addSat p.counters.paceOverruns 1 },
           conditions := { p.conditions with paceOverrun := true } }

def Port.countTimerOverrun (p : Port) : Port :=
  { p with counters := { p.counters with timerOverruns := addSat p.counters.timerOverruns 1 },
           conditions := { p.conditions with timerOverrun := true } }

def Port.countLaneDown (p : Port) : Port :=
  { p with counters := { p.counters with laneDowns := addSat p.counters.laneDowns 1 },
           conditions := { p.conditions with laneDown := true } }

/-- Lost history is counted and raised where a composition finds some (R47). -/
def Port.countLost (n : Nat) (p : Port) : Port :=
  if n = 0 then p
  else { p with counters := { p.counters with historyLost := addSat p.counters.historyLost n },
                conditions := { p.conditions with historyLost := true } }

/-- A composition that sets SAT counts one, however many entries saturated (R65). -/
def Port.countSat (sat : Bool) (p : Port) : Port :=
  if sat then { p with counters := { p.counters with satCompositions := addSat p.counters.satCompositions 1 },
                       conditions := { p.conditions with saturated := true } }
  else p

/-- RESIDUE_SATS counts one for each entry whose residue was limited (R54). -/
def Port.countResidue (n : Nat) (p : Port) : Port :=
  if n = 0 then p
  else { p with counters := { p.counters with residueSats := addSat p.counters.residueSats n },
                conditions := { p.conditions with residueSaturated := true } }

/-- LAG_LIMITED is raised where the target lag was limited (R73). -/
def Port.raiseLimited (limited : Bool) (p : Port) : Port :=
  if limited then { p with conditions := { p.conditions with lagLimited := true } } else p

/-! ## Condition sets (R177, R178) -/

/-- A byte from its bits, bit 0 first; the bits not given are 0. -/
def byteOfBits (bits : List Bool) : Byte :=
  BitVec.ofNat 8 (bits.foldr (fun b acc => (if b then 1 else 0) + 2 * acc) 0)

def PartConditions.byte (c : PartConditions) : Byte :=
  byteOfBits [c.linkError, c.stepStale, c.stepGap, c.sourceSilent, c.batchFault, c.refused, c.dropped]

def PortConditions.byte (c : PortConditions) : Byte :=
  byteOfBits [c.paceOverrun, c.timerOverrun, c.historyLost, c.saturated, c.residueSaturated, c.lagLimited, c.laneDown]

/-- Clear the part conditions a set names, and keep the others (R159). -/
def PartConditions.clear (c : PartConditions) (b : Byte) : PartConditions :=
  { linkError := c.linkError && !b.getLsbD 0, stepStale := c.stepStale && !b.getLsbD 1,
    stepGap := c.stepGap && !b.getLsbD 2, sourceSilent := c.sourceSilent && !b.getLsbD 3,
    batchFault := c.batchFault && !b.getLsbD 4, refused := c.refused && !b.getLsbD 5,
    dropped := c.dropped && !b.getLsbD 6 }

/-- Clear the port conditions a set names, and keep the others (R159). -/
def PortConditions.clear (c : PortConditions) (b : Byte) : PortConditions :=
  { paceOverrun := c.paceOverrun && !b.getLsbD 0, timerOverrun := c.timerOverrun && !b.getLsbD 1,
    historyLost := c.historyLost && !b.getLsbD 2, saturated := c.saturated && !b.getLsbD 3,
    residueSaturated := c.residueSaturated && !b.getLsbD 4, lagLimited := c.lagLimited && !b.getLsbD 5,
    laneDown := c.laneDown && !b.getLsbD 6 }

/-- The counters of each group in the order Read Counters carries them (R160). -/
def LaneCounters.list (c : LaneCounters) : List Half :=
  [c.crcErrors, c.codeErrors, c.badFrames, c.abortedFrames, c.lockLosses]

def PartCounters.list (c : PartCounters) : List Half :=
  [c.cueAccepted, c.stepStale, c.gapSteps, c.silentEntries, c.batchFaults, c.requestsRefused, c.requestsDropped,
   c.returnsDropped]

def PortCounters.list (c : PortCounters) : List Half :=
  [c.emitted, c.skipped, c.repeated, c.paceOverruns, c.timerOverruns, c.historyLost, c.satCompositions, c.residueSats,
   c.laneDowns]

end Sys2Proof.Machine
end

