-- ==== Sys2Proof/Machine/Operands.lean ====
section
/-! DEFINITION. The bytes of frames: byte order, the CRC, headers, the checks of R128 and the frames the part builds. -/

namespace Sys2Proof.Machine

/-! ## Byte order (R171) -/

/-- A two-byte field, most significant byte first, at an offset. -/
def be16 (b : List Byte) (i : Nat) : Half := b.getD i 0 ++ b.getD (i + 1) 0

/-- The two bytes of a 16-bit field as they are sent. -/
def bytes16 (x : Half) : List Byte := [x.extractLsb' 8 8, x.extractLsb' 0 8]

/-- The four bytes of a 32-bit field as they are sent. -/
def bytes32 (x : BitVec 32) : List Byte :=
  [x.extractLsb' 24 8, x.extractLsb' 16 8, x.extractLsb' 8 8, x.extractLsb' 0 8]

/-- `n` two-byte fields from the start of the bytes. -/
def halves : Nat → List Byte → List Half
  | 0, _ => []
  | n + 1, b => be16 b 0 :: halves n (b.drop 2)

/-! ## The CRC (R127) -/

/-- One bit: compare it with the register's top bit, move the register up, and combine with 1021h where they differed. -/
def crcBit (r : BitVec 16) (bit : Bool) : BitVec 16 :=
  if r.msb = bit then r <<< 1 else (r <<< 1) ^^^ 0x1021

/-- One byte, most significant bit first. -/
def crcByte (r : BitVec 16) (b : Byte) : BitVec 16 :=
  [b.getLsbD 7, b.getLsbD 6, b.getLsbD 5, b.getLsbD 4, b.getLsbD 3, b.getLsbD 2, b.getLsbD 1, b.getLsbD 0].foldl crcBit r

/-- The register after some bytes, preset to FFFFh. -/
def crc (bytes : List Byte) : BitVec 16 := bytes.foldl crcByte 0xFFFF

/-- Header and payload followed by their CRC, high byte first. -/
def withCrc (bytes : List Byte) : Frame := bytes ++ bytes16 (crc bytes)

/-! ## Headers (R172) -/

/-- The frame classes. -/
inductive FrameClass where
  | cue
  | request
  | reply
  | dest
  | pace
  deriving DecidableEq, Repr

/-- The class codes (R171). -/
def FrameClass.code : FrameClass → Byte
  | .cue => 0x01
  | .request => 0x02
  | .reply => 0x03
  | .dest => 0x04
  | .pace => 0x05

/-- The class of a frame, from bits 0..6 of its first byte. -/
def frameClass (f : Frame) : Option FrameClass :=
  match ((f.getD 0 0).extractLsb' 0 7).toNat with
  | 1 => some .cue
  | 2 => some .request
  | 3 => some .reply
  | 4 => some .dest
  | 5 => some .pace
  | _ => none

/-- The CHAIN bit, bit 7 of the first byte. -/
def frameChain (f : Frame) : Bool := (f.getD 0 0).getLsbD 7

def frameAddress (f : Frame) : Byte := f.getD 1 0

def frameTag (f : Frame) : Byte := f.getD 2 0

/-- The payload length field. -/
def frameLength (f : Frame) : Nat := (f.getD 3 0).toNat

/-- The bytes between the header and the CRC. -/
def framePayload (f : Frame) : List Byte := (f.drop 4).take (f.length - 6)

/-! ## The checks of a completed frame (R128, R129) -/

/-- The five checks, by name. -/
inductive FrameFault where
  | size
  | crc
  | length
  | cls
  | content
  deriving DecidableEq, Repr

/-- Each class is accepted on one kind of receive lane, and DEST on none (R129). -/
def accepts : Lane → FrameClass → Bool
  | .upstream, .cue => true
  | .upstream, .request => true
  | .thru, .reply => true
  | .output _, .pace => true
  | _, _ => false

/-- The content a class requires (R1, R129, R172). -/
def contentOk (f : Frame) : FrameClass → Bool
  | .cue =>
    let n := ((framePayload f).getD 2 0).toNat
    decide (1 ≤ n) && decide (n ≤ 48) && decide (frameLength f = 4 + 2 * n)
  | .request => decide ((frameAddress f).toNat ≤ 15)
  | .reply => true
  | .pace => decide (frameLength f = 4)
  | .dest => false

/-- The first check that fails, in the order of R128. -/
def checkFrame (l : Lane) (f : Frame) : Option FrameFault :=
  if f.length < 6 then some .size
  else if crc f ≠ 0 then some .crc
  else if frameLength f ≠ f.length - 6 then some .length
  else
    match frameClass f with
    | none => some .cls
    | some c => if accepts l c then if contentOk f c then none else some .content else some .cls

/-- A frame that passes every check of R128 on a lane and has the given class. -/
def isGood (l : Lane) (c : FrameClass) (f : Frame) : Bool :=
  decide (checkFrame l f = none) && decide (frameClass f = some c)

/-! ## Payload fields of received frames (R172) -/

def cueStep (f : Frame) : Half := be16 (framePayload f) 0

def cueCount (f : Frame) : Nat := ((framePayload f).getD 2 0).toNat

/-- The n values of a CUE frame in slot order; its reserved byte is not read (R1). -/
def cueValues (f : Frame) : List Cue := halves (cueCount f) ((framePayload f).drop 4)

def paceWant (f : Frame) : Bool := ((framePayload f).getD 0 0).getLsbD 0

def paceAdvance (f : Frame) : Bool := ((framePayload f).getD 0 0).getLsbD 1

/-- The declared latency: FFFFh is unknown (R68). -/
def paceLatency (f : Frame) : Option Half :=
  let l := be16 (framePayload f) 2
  if l = 0xFFFF then none else some l

/-! ## Codes of named values (R171) -/

def PortState.code : PortState → Byte
  | .off => 0
  | .wait => 1
  | .run => 2
  | .hold => 3
  | .fade => 4
  | .settled => 5

def SourceState.code : SourceState → Byte
  | .absent => 0
  | .live _ => 1
  | .silent _ _ => 2

def Kind.code : Kind → Byte
  | .level => 0
  | .delta => 1
  | .peak => 2

def Role.code : Role → Byte
  | .vision => 0
  | .sound => 1
  | .cab => 2

def Pacing.code : Pacing → Byte
  | .peer => 0
  | .timer => 1
  | .locked => 2

def LagMode.code : LagMode → Byte
  | .manual => 0
  | .auto => 1

def boolCode (b : Bool) : Byte := if b then 1 else 0

/-! ## Frames the part builds -/

/-- The bytes of a DEST frame (R96, R172): class DEST, the port's number, tag 0, CHAIN clear; `rep` sets REPEAT. -/
def DestFrame.bytes (p : PortId) (rep : Bool) (d : DestFrame) : Frame :=
  withCrc ([FrameClass.dest.code, BitVec.ofNat 8 p.val, 0, BitVec.ofNat 8 (8 + 2 * d.values.length),
    d.seq, d.state.code, byteOfBits [d.lost, d.sat, d.lagWalk, rep], BitVec.ofNat 8 d.values.length]
    ++ bytes16 d.targetStep ++ [BitVec.ofNat 8 d.lag, 0] ++ d.values.flatMap bytes16)

/-- The bytes of a REPLY frame (R136, R172): this unit's address, the batch's tag, CHAIN clear. -/
def replyFrame (unitAddress : BitVec 4) (tag : BitVec 8) (payload : List Byte) : Frame :=
  withCrc ([FrameClass.reply.code, unitAddress.setWidth 8, tag, BitVec.ofNat 8 payload.length] ++ payload)

end Sys2Proof.Machine
end

