-- ==== Sys2Proof/Machine/Intake.lean ====
section
/-! DEFINITION. The cue intake: the step test, acceptance, the step-period estimate and the source timeout (chapter 01). -/

namespace Sys2Proof.Machine

/-! ## Views of the ring (R7, R9) -/

/-- The ring count. -/
def Intake.count (i : Intake) : Nat := i.ring.length

/-- The age of an arrival index: (Ni - x) modulo 2^32 (R7). -/
def Intake.age (i : Intake) (x : ArrivalIndex) : Nat := (i.ni - x).toNat

/-- The arrival index of a given age (R20, R44). -/
def Intake.indexAt (i : Intake) (age : Nat) : ArrivalIndex := i.ni - BitVec.ofNat 32 age

/-- The last accepted frame's stamp, absent while the source is ABSENT (R14). -/
def Intake.last (i : Intake) : Option Stamp :=
  match i.source with
  | .absent => none
  | .live t => some t
  | .silent t _ => some t

/-- The time since the last accepted frame; it reads 4294967295 while the source is ABSENT (R14, R19). -/
def Intake.sinceLast (now : Time) (i : Intake) : Nat :=
  match i.last with
  | none => Config.elapsedMax
  | some t => t.elapsed now

/-- The source timeout in µs: 1000 µs per ms (R12). -/
def Intake.timeoutMicros (i : Intake) : Nat := i.timeout.toNat * 1000

/-! ## The step-period estimate (R16, R17) -/

/-- One sample: the elapsed time divided by the step distance, truncating (R16). -/
def samplePeriod (elapsed d : Nat) : Nat := elapsed / d

/-- A sample within 100..20000 updates E16; another leaves it (R16, R17). -/
def updateE16 (e16 : BitVec 32) (sample : Nat) : BitVec 32 :=
  if 100 ≤ sample ∧ sample ≤ 20000 then BitVec.ofNat 32 (e16.toNat + sample - e16.toNat / 16) else e16

/-! ## Acceptance (R4) -/

/-- The frame record formed from a frame (R8). -/
def Intake.record (now : Time) (f : Frame) (i : Intake) : Record :=
  { index := i.nextIndex, step := cueStep f, time := now, values := cueValues f }

/-- The intake after it accepts a frame; `sample` is the sample formed, if any (R4, items 1 to 7). -/
def Intake.accept (now : Time) (f : Frame) (sample : Option Nat) (i : Intake) : Intake :=
  { i with
    ring := (i.record now f :: i.ring).take Config.ringDepth
    nextIndex := i.nextIndex + 1
    ni := i.nextIndex
    newestStep := cueStep f
    source := .live (.mark now)
    e16 := match sample with
      | none => i.e16
      | some x => updateE16 i.e16 x }

/-- The step distance of R2. -/
def Intake.distance (i : Intake) (f : Frame) : Nat := (cueStep f - i.newestStep).toNat

/-- The step test accepts a distance of 1..32767 (R2). -/
def stepAccepted (d : Nat) : Bool := decide (1 ≤ d) && decide (d ≤ 32767)

/-- The intake takes a cue frame handed to it (R2 to R6). -/
def State.takeCueIntake (f : Frame) (s : State) : State :=
  match s.intake.source with
  | .absent => { s with intake := s.intake.accept s.now f none }.countCueAccepted
  | .live t | .silent t _ =>
    let d := s.intake.distance f
    if stepAccepted d then
      let s := { s with intake := s.intake.accept s.now f (some (samplePeriod (t.elapsed s.now) d)) }.countCueAccepted
      if 1 < d then s.countGap (d - 1) else s
    else s.countStepStale

/-! ## The source timeout (R12, R18) -/

/-- The timeout has run out: the time since the last accepted frame has reached it while the source is LIVE. -/
def Intake.timedOut (now : Time) (i : Intake) : Bool :=
  match i.source with
  | .live t => decide (i.timeoutMicros ≤ t.elapsed now)
  | _ => false

/-- The source becomes SILENT with a given silence start (R12). -/
def Intake.silence (start : Stamp) (i : Intake) : Intake :=
  match i.source with
  | .live t => { i with source := .silent t start }
  | _ => i

/-- The expiry instant: the time of the last accepted frame plus the timeout (R12). -/
def Intake.expiryInstant (i : Intake) (last : Stamp) : Time := last.at_ + BitVec.ofNat 32 i.timeoutMicros

/-- The source becomes SILENT: SILENT_ENTRIES is counted and SOURCE_SILENT raised (R12). -/
def State.expireSource (start : Stamp) (s : State) : State :=
  { s with intake := s.intake.silence start }.countSilent

/-- The expiry of the source timeout in its usual way: the silence starts at the expiry instant (R12). -/
def State.expireAtInstant (s : State) : State :=
  match s.intake.source with
  | .live t => s.expireSource (.mark (s.intake.expiryInstant t))
  | _ => s

/-! ## Configuration and reset of the intake (R18, R21) -/

/-- The period and timeout as Configure Source takes them: clamped to 100..20000 µs and 2..250 ms (R18). -/
def clampPeriod (x : Half) : Half := if x.toNat < 100 then 100 else if 20000 < x.toNat then 20000 else x

def clampTimeout (x : BitVec 8) : BitVec 8 := if x.toNat < 2 then 2 else if 250 < x.toNat then 250 else x

/-- 16 times a nominal period (R18, R21). -/
def e16Of (nominal : Half) : BitVec 32 := BitVec.ofNat 32 (16 * nominal.toNat)

/-- Configure Source is applied: E16 restarts from the period, and a LIVE source whose new timeout has already run out
becomes SILENT at this event, with this event as the silence start (R18). -/
def State.configureSource (nominal : Half) (timeout : BitVec 8) (s : State) : State :=
  let n := clampPeriod nominal
  let s := { s with intake := { s.intake with nominal := n, timeout := clampTimeout timeout, e16 := e16Of n } }
  if s.intake.timedOut s.now then s.expireSource (.mark s.now) else s

/-- The intake after Reset Unit RUNTIME (R21): the configured period and timeout are kept. -/
def Intake.resetRuntime (i : Intake) : Intake :=
  { Intake.powerOn with e16 := e16Of i.nominal, nominal := i.nominal, timeout := i.timeout }

end Sys2Proof.Machine
end

