-- ==== Sys2Proof/Machine/Link.lean ====
section
/-! DEFINITION. The queues of the cue link: forwarding, the two reply queues and the upstream arbiter (7.3, 7.4). -/

namespace Sys2Proof.Machine

/-! ## Forwarding (R132, R133) -/

/-- Begin the oldest frame of the forwarding queue if the thru transmitter is idle and its receive lane is ALIVE. -/
def State.beginForward (s : State) : State :=
  match s.link.forwarding with
  | [] => s
  | f :: _ =>
    if s.link.thruTx.busy || !(s.lane .thru).alive then s
    else { s with link := { s.link with thruTx := s.link.thruTx.begin s.now f } }

/-- A frame to be forwarded joins the queue if the thru receive lane is ALIVE; otherwise nothing is counted (R132). -/
def State.forward (f : Frame) (s : State) : State :=
  if (s.lane .thru).alive then
    { s with link := { s.link with forwarding := s.link.forwarding ++ [f] } }.beginForward
  else s

/-- The end of a transmission on the thru lane: the frame leaves, and the next one begins (R133). -/
def State.endForward (s : State) : State :=
  { s with link := { s.link with thruTx := s.link.thruTx.finish, forwarding := s.link.forwarding.tail } }.beginForward

/-! ## The upstream arbiter (R137) -/

/-- The frame the arbiter takes, and its queue: the only queue that holds one, or the one the mark does not name. -/
def Link.choose (k : Link) : Option (Served × Frame) :=
  match k.own, k.returns with
  | [], [] => none
  | f :: _, [] => some (.own, f)
  | [], f :: _ => some (.ret, f)
  | f :: _, g :: _ =>
    match k.lastServed with
    | .own => some (.ret, g)
    | .ret => some (.own, f)

/-- The arbiter chooses when the upstream transmitter is idle and its receive lane is ALIVE (R137, R139). -/
def State.arbitrate (s : State) : State :=
  if s.link.upTx.busy || !(s.lane .upstream).alive then s
  else
    match s.link.choose with
    | none => s
    | some (q, f) => { s with link := { s.link with upTx := s.link.upTx.begin s.now f, lastServed := q } }

/-- A REPLY of this unit joins the own-reply queue (R136). -/
def State.joinOwn (f : Frame) (s : State) : State :=
  { s with link := { s.link with own := s.link.own ++ [f] } }.arbitrate

/-- A REPLY from the thru lane joins the return queue, or is discarded where that holds 4 (R134). -/
def State.joinReturn (f : Frame) (s : State) : State :=
  if s.link.returns.length < Config.replyPlaces then
    { s with link := { s.link with returns := s.link.returns ++ [f] } }.arbitrate
  else s.countReturnDropped

/-- The frame of the queue the mark names, the one in transmission, leaves it (R137). -/
def Link.leave (k : Link) : Link :=
  match k.lastServed with
  | .own => { k with own := k.own.tail }
  | .ret => { k with returns := k.returns.tail }

/-- The end of a transmission on the upstream lane (R137). -/
def State.endUpstream (s : State) : State :=
  { s with link := { s.link.leave with upTx := s.link.upTx.finish } }.arbitrate

end Sys2Proof.Machine
end

