-- ==== Sys2Proof/Machine/Stages.lean ====
section
/-! DEFINITION. What one route entry computes at a composition: source values and the five stages (3.4 to 3.8, 6.2). -/

namespace Sys2Proof.Machine

/-! ## The five stages (R58 to R62) -/

/-- Whether the sign stage negates: invert differs from mirror-sensitive and the port's mirror (R24, R58). -/
def RouteEntry.negates (e : RouteEntry) (mirror : Bool) : Bool := e.invert != (e.mirrorSensitive && mirror)

/-- The sign stage, and whether it set SAT: the negation of -32768 gives 32767 (R58). -/
def signStage (negate : Bool) (x : Int) : Int × Bool :=
  if negate then (if x = -32768 then (32767, true) else (-x, false)) else (x, false)

/-- The gain stage, and whether it clamped: x × g × s / 256, truncating toward zero (R59). -/
def gainStage (g s : Nat) (x : Int) : Int × Bool :=
  let q := (x * g * s).tdiv 256
  if 32767 < q then (32767, true) else if q < -32768 then (-32768, true) else (q, false)

/-- The point y_k of a curve. -/
def Curve.y (c : Curve) (k : Nat) : Int := (c.points.getD k 0).toInt

/-- The curve stage: segment k = u / 8192, position f, and y_k plus the interpolated step, truncating toward zero
(R60). -/
def Curve.shape (c : Curve) (x : Int) : Int :=
  let u := (x + 32768).toNat
  let k := u / 8192
  let f := u - 8192 * k
  c.y k + ((c.y (k + 1) - c.y k) * (f : Int)).tdiv 8192

/-- The curve stage is omitted for NONE (R26, R60). -/
def curveStage (c : Option Curve) (x : Int) : Int :=
  match c with
  | none => x
  | some c => c.shape x

/-- The clamp stage (R61). -/
def RouteEntry.clamp (e : RouteEntry) (x : Int) : Int := clampInt e.lo.toInt e.hi.toInt x

/-- The slew stage of a LEVEL entry, from its last output to the target the clamp stage gave (R28, R62). -/
def RouteEntry.slewStage (e : RouteEntry) (last target : Int) : Int :=
  if e.slew = 0 then target
  else e.clamp (last + clampInt (-(e.slew.toNat : Int)) e.slew.toNat (target - last))

/-- Sign, gain, curve and clamp, and whether the sign or the gain stage set SAT (R65). -/
def RouteEntry.shape (e : RouteEntry) (curve : Option Curve) (mirror : Bool) (scale : Nat) (v : Int) : Int × Bool :=
  let (a, satSign) := signStage (e.negates mirror) v
  let (b, satGain) := gainStage e.gain.toNat scale a
  (e.clamp (curveStage curve b), satSign || satGain)

/-! ## Source values (R38, R50 to R57) -/

/-- What an entry reads in a ring record: its slot, absent where the record's slot count does not exceed it, or its
constant in every record (R22, R38). -/
def RouteEntry.read (e : RouteEntry) (r : Record) : Option Int :=
  match e.source with
  | .slot i => r.values[i.val]?.map BitVec.toInt
  | .constant => some e.constant.toInt

/-- The values an entry reads in some records, absent slots left out. -/
def RouteEntry.reads (e : RouteEntry) (rs : List Record) : List Int := rs.filterMap e.read

/-- The exact sum of some values. -/
def sumInt (xs : List Int) : Int := xs.foldr (· + ·) 0

/-- The source value of a LEVEL entry: the average of the frames of ages a(t)..a(t) + W - 1 that carry the slot (R50),
else the newest older frame that does, else none, the neutral (R51). The ring is newest first. -/
def RouteEntry.levelSource (e : RouteEntry) (ring : List Record) (targetAge : Nat) : Option Int :=
  let near := e.reads ((ring.drop targetAge).take e.window.frames)
  if near = [] then (e.reads (ring.drop (targetAge + e.window.frames))).head?
  else some ((sumInt near).tdiv near.length)

/-- The total of a DELTA entry: its residue plus its slot over the span (R52). -/
def RouteEntry.total (e : RouteEntry) (r : Runtime) (span : List Record) : Int :=
  r.residue.toInt + sumInt (e.reads span)

/-- The candidate of the greatest absolute value, the earliest of several equal ones (R56). -/
def peakOf : List Int → Option Int
  | [] => none
  | x :: xs => some (xs.foldl (fun best y => if best.natAbs < y.natAbs then y else best) x)

/-- The candidates of a PEAK entry: the carry, then the span in arrival order (R56). -/
def RouteEntry.candidates (e : RouteEntry) (r : Runtime) (span : List Record) : List Int :=
  (r.carry.map BitVec.toInt).toList ++ e.reads span

/-- The residue held within -2^30..2^30, and whether it was limited (R54). -/
def limitResidue (x : Int) : BitVec 32 × Bool :=
  if Config.residueMax < x then (BitVec.ofInt 32 Config.residueMax, true)
  else if x < -Config.residueMax then (BitVec.ofInt 32 (-Config.residueMax), true)
  else (BitVec.ofInt 32 x, false)

/-! ## One entry at one composition -/

/-- How the entries of a window are run (6.2): by their stages in RUN, held in HOLD, one fade step in FADE or SETTLED of
a CAB port, and the neutral in SETTLED of a SOUND port. -/
inductive Mode where
  | run
  | hold
  | fadeStep
  | settle
  deriving DecidableEq, Repr

/-- What the entries of a window read of their port and the intake at a composition. -/
structure Scene where
  mode : Mode
  transmitted : Bool
  ring : List Record
  targetAge : Nat
  span : List Record
  mirror : Bool
  scale : Nat
  fadeStep : Nat
  curves : Vector Curve 8

/-- What an entry leaves: its record, the value presented, whether it set SAT, and whether its residue was limited. -/
structure EntryOut where
  record : Runtime
  value : Cue
  sat : Bool
  limited : Bool
  deriving DecidableEq, Repr

/-- The last output clamped to the entry's limits at the start of a consuming composition (R49). -/
def Runtime.clampLast (e : RouteEntry) (r : Runtime) : Runtime := { r with last := toCue (e.clamp r.last.toInt) }

/-- One fade step from a last output toward the neutral, clamped to the limits (R112). -/
def RouteEntry.fade (e : RouteEntry) (step : Nat) (last : Int) : Int :=
  let d := e.neutral.toInt - last
  e.clamp (if d.natAbs ≤ step then e.neutral.toInt else if 0 < d then last + step else last - step)

/-- The curve an entry names. -/
def RouteEntry.theCurve (e : RouteEntry) (curves : Vector Curve 8) : Option Curve := e.curve.map fun i => curves[i]

/-- A LEVEL entry in RUN: its stages, then slew; or its neutral where no frame carries the slot (R50, R51, R62). -/
def RouteEntry.levelRun (e : RouteEntry) (sc : Scene) (r : Runtime) : EntryOut :=
  let (target, sat) :=
    match e.levelSource sc.ring sc.targetAge with
    | none => (e.neutral.toInt, false)
    | some v => e.shape (e.theCurve sc.curves) sc.mirror sc.scale v
  let o := toCue (e.slewStage r.last.toInt target)
  { record := { r with last := o }, value := o, sat := sat, limited := false }

/-- A LEVEL entry at a composition, in each mode (R62, R111, R112, R114). -/
def RouteEntry.level (e : RouteEntry) (sc : Scene) (r : Runtime) : EntryOut :=
  match sc.mode with
  | .run => e.levelRun sc r
  | .hold => { record := r, value := r.last, sat := false, limited := false }
  | .fadeStep =>
    let o := toCue (e.fade sc.fadeStep r.last.toInt)
    { record := { r with last := o }, value := o, sat := false, limited := false }
  | .settle => { record := { r with last := e.neutral }, value := e.neutral, sat := false, limited := false }

/-- DELTA and PEAK entries run their stages at a transmitted composition in RUN or HOLD, and bank otherwise (R53, R57,
R111, R115). -/
def Scene.emits (sc : Scene) : Bool := sc.transmitted && (sc.mode == .run || sc.mode == .hold)

/-- A DELTA entry at a composition (R52 to R54, R111, R115). -/
def RouteEntry.delta (e : RouteEntry) (sc : Scene) (r : Runtime) : EntryOut :=
  let total := e.total r sc.span
  if sc.emits then
    let pre := clampInt (-32768) 32767 total
    let (residue, limited) := limitResidue (total - pre)
    let (v, sat) := e.shape (e.theCurve sc.curves) sc.mirror sc.scale pre
    { record := { r with residue := residue, last := toCue v }, value := toCue v, sat := sat, limited := limited }
  else
    let (residue, limited) := limitResidue total
    { record := { r with residue := residue }, value := 0, sat := false, limited := limited }

/-- A PEAK entry at a composition (R56, R57, R111, R115). -/
def RouteEntry.peak (e : RouteEntry) (sc : Scene) (r : Runtime) : EntryOut :=
  let winner := peakOf (e.candidates r sc.span)
  if sc.emits then
    let (v, sat) := e.shape (e.theCurve sc.curves) sc.mirror sc.scale (winner.getD 0)
    { record := { r with carry := none, last := toCue v }, value := toCue v, sat := sat, limited := false }
  else
    { record := { r with carry := winner.map toCue }, value := 0, sat := false, limited := false }

/-- An entry at a consuming composition with the ring not empty: the clamp of R49, then its kind's rules. -/
def RouteEntry.compose (e : RouteEntry) (sc : Scene) (r : Runtime) : EntryOut :=
  let r := r.clampLast e
  match e.kind with
  | .level => e.level sc r
  | .delta => e.delta sc r
  | .peak => e.peak sc r

/-- An entry at a composition in WAIT: a LEVEL entry presents its neutral and takes it as last output, a DELTA or PEAK
entry presents 0 and keeps its record (R110). -/
def RouteEntry.wait (e : RouteEntry) (r : Runtime) : EntryOut :=
  match e.kind with
  | .level => { record := { r with last := e.neutral }, value := e.neutral, sat := false, limited := false }
  | .delta | .peak => { record := r, value := 0, sat := false, limited := false }

end Sys2Proof.Machine
end

