-- ==== Sys2Proof/Machine/Lag.lean ====
section
/-! DEFINITION. Lag alignment: the target lag and its walk (chapter 04). -/

namespace Sys2Proof.Machine

/-- The greatest declared latency among the enabled ports and the computing port itself, of those whose latency is
known (R70, R75). At a composition the computing port is enabled. -/
def State.latencyMax (s : State) (p : PortId) : Nat :=
  (List.finRange 6).foldl
    (fun m q =>
      match s.ports[q].latency with
      | some l => if s.ports[q].enabled || q == p then max m l.toNat else m
      | none => m)
    0

/-- The latency difference D = Lmax - L + trim, or 0 where that is not positive (R71). -/
def latencyDifference (lmax l : Nat) (trim : Int) : Nat := ((lmax : Int) - l + trim).toNat

/-- D in frames: (D × 16 + E16 / 2) / E16, both divisions truncating (R72). -/
def framesOf (d e16 : Nat) : Nat := (d * 16 + e16 / 2) / e16

/-- The target lag, and whether it was limited to 48 (R71 to R74). -/
def State.targetLag (s : State) (p : PortId) : Nat × Bool :=
  let port := s.ports[p]
  match port.cfg.lagMode with
  | .manual => (port.cfg.manualLag.toNat, false)
  | .auto =>
    match port.latency with
    | none => (0, false)
    | some l =>
      let t := framesOf (latencyDifference (s.latencyMax p) l.toNat port.cfg.trim.toInt) s.intake.e16.toNat
      if Config.maxLag < t then (Config.maxLag, true) else (t, false)

/-- One step of the walk toward the target (R76). -/
def walk (lag target : Nat) : Nat := if lag < target then lag + 1 else if target < lag then lag - 1 else lag

end Sys2Proof.Machine
end

