-- ==== Sys2Proof/Machine/Compose.lean ====
section
/-! DEFINITION. The three kinds of composition (chapters 03, 05 and 06). -/

namespace Sys2Proof.Machine

/-! ## Target, span and state (R44 to R48, R83, R107, R113) -/

/-- What a consuming composition that finds the ring not empty fixes before its entries run. -/
structure Plan where
  /-- The composition is the start out of WAIT (R84). -/
  start : Bool
  targetLag : Nat
  /-- The target lag was limited to 48 (R73). -/
  limited : Bool
  /-- The effective lag as the composition leaves it (R76, R77). -/
  lag : Nat
  targetAge : Nat
  target : ArrivalIndex
  /-- The consumption mark as R46 takes it. -/
  mark : ArrivalIndex
  markAge : Nat
  deriving DecidableEq, Repr

/-- The plan of a port's composition (R44, R46, R75 to R77). -/
def State.plan (s : State) (p : PortId) : Plan :=
  let port := s.ports[p]
  let start := port.state == .wait
  let (target, limited) := s.targetLag p
  let lag := if start then target else walk port.lag target
  let targetAge := min lag (s.intake.count - 1)
  let t := s.intake.indexAt targetAge
  let mark := (if start then none else port.consumed).getD (t - 1)
  { start := start, targetLag := target, limited := limited, lag := lag, targetAge := targetAge, target := t,
    mark := mark, markAge := s.intake.age mark }

/-- The number of frames of the span: min(a(c), count) - a(t), and none where a(c) is not greater than a(t) (R46). -/
def Plan.spanLength (pl : Plan) (count : Nat) : Nat := min pl.markAge count - pl.targetAge

/-- The records of the span in arrival order (R46). -/
def Plan.span (pl : Plan) (ring : List Record) : List Record :=
  ((ring.drop pl.targetAge).take (pl.spanLength ring.length)).reverse

/-- The frames that left the ring unconsumed: a(c) - count (R47). -/
def Plan.lost (pl : Plan) (count : Nat) : Nat := pl.markAge - count

/-- The consumption mark after the composition (R48). -/
def Plan.markAfter (pl : Plan) : ArrivalIndex := if pl.targetAge < pl.markAge then pl.target else pl.mark

/-- The silence age, while the source is SILENT (R14, R108). -/
def State.silenceAge (s : State) : Option Nat :=
  match s.intake.source with
  | .silent _ since => some (since.elapsed s.now)
  | _ => none

/-- The hold limit in µs: the hold time in units of 10 ms (R107). -/
def PortConfig.holdLimit (c : PortConfig) : Nat := c.holdTime.toNat * 10000

/-- How the window is run at this composition: RUN unless the source is SILENT, else by role and silence age (R107). -/
def PortConfig.modeAt (c : PortConfig) (silenceAge : Option Nat) : Mode :=
  match silenceAge with
  | none => .run
  | some a =>
    match c.role with
    | .vision => .hold
    | .sound => if a < c.holdLimit then .hold else .settle
    | .cab => if a < c.holdLimit then .hold else .fadeStep

/-- The state chosen; a CAB port past its hold limit chooses SETTLED where every LEVEL entry of its window stands at its
neutral after the fade step, and FADE otherwise (R83, R107, R113). -/
def chosenState (mode : Mode) (allNeutral : Bool) : PortState :=
  match mode with
  | .run => .run
  | .hold => .hold
  | .settle => .settled
  | .fadeStep => if allNeutral then .settled else .fade

/-! ## Running the window -/

/-- What each entry of a window leaves. -/
abbrev WindowOut := List (EntryId × EntryOut)

/-- The records with those of the window replaced. -/
def writeRecords (recs : Vector Runtime 96) (outs : WindowOut) : Vector Runtime 96 :=
  outs.foldl (fun v o => v.set o.1 o.2.record) recs

/-- The window at a consuming composition with the ring not empty. Each entry reads its own entry and record (R43). -/
def RouteTable.runWindow (t : RouteTable) (c : PortConfig) (sc : Scene) : WindowOut :=
  c.window.map fun i => (i, t.entries[i].compose sc t.records[i])

/-- The window at a composition in WAIT (R110). -/
def RouteTable.waitWindow (t : RouteTable) (c : PortConfig) : WindowOut :=
  c.window.map fun i => (i, t.entries[i].wait t.records[i])

/-- Every LEVEL entry of the window has its neutral as last output (R113). -/
def RouteTable.allNeutral (t : RouteTable) (outs : WindowOut) : Bool :=
  outs.all fun o => t.entries[o.1].kind != .level || o.2.record.last == t.entries[o.1].neutral

/-- The values of a frame: one for each entry of the window, in window order (R66). -/
def WindowOut.values (outs : WindowOut) : List Cue := outs.map fun o => o.2.value

/-! ## Transmission (R95, R97, R98) -/

/-- A transmitted composition ends: the frame is recorded, the sequence advances, EMITTED is counted and the
transmission begins (R66, R95, R97 to R99). -/
def Port.emit (p : PortId) (now : Time) (d : DestFrame) (port : Port) : Port :=
  { port with
    lastFrame := some d
    seq := port.seq + 1
    tx := port.tx.begin now (d.bytes p false) }.countEmitted

/-- The end of a composition by its kind: a transmitted one emits its frame, a SKIP counts SKIPPED alone (R63, R99). -/
def Port.conclude (p : PortId) (now : Time) (transmitted : Bool) (d : DestFrame) (port : Port) : Port :=
  if transmitted then port.emit p now d else port.countSkipped

/-! ## Consuming compositions -/

/-- What a composition writes: its port and the runtime records. -/
structure Composed where
  port : Port
  records : Vector Runtime 96

/-- A consuming composition that finds the ring empty leaves the port in WAIT (R43, R83, R96, R110). -/
def State.composeWait (s : State) (p : PortId) (transmitted : Bool) : Composed :=
  let port := s.ports[p]
  let outs := s.routes.waitWindow port.cfg
  let d : DestFrame := { seq := port.seq, state := .wait, lost := false, sat := false, lagWalk := false,
                         targetStep := 0, lag := port.lag, values := WindowOut.values outs }
  { port := { port with state := .wait }.conclude p s.now transmitted d
    records := writeRecords s.routes.records outs }

/-- The scene of a composition with the ring not empty. -/
def State.scene (s : State) (p : PortId) (transmitted : Bool) : Scene :=
  let c := s.ports[p].cfg
  let pl := s.plan p
  { mode := c.modeAt s.silenceAge, transmitted := transmitted, ring := s.intake.ring, targetAge := pl.targetAge,
    span := pl.span s.intake.ring, mirror := c.mirror, scale := c.scale.toNat, fadeStep := c.fadeStep.toNat,
    curves := s.routes.curves }

/-- The window's results at a composition with the ring not empty. -/
def State.outs (s : State) (p : PortId) (transmitted : Bool) : WindowOut :=
  s.routes.runWindow s.ports[p].cfg (s.scene p transmitted)

/-- The DEST frame a composition with the ring not empty fixes (R47, R65, R66, R78, R96). -/
def State.frame (s : State) (p : PortId) (transmitted : Bool) : DestFrame :=
  let pl := s.plan p
  let outs := s.outs p transmitted
  { seq := s.ports[p].seq
    state := chosenState (s.scene p transmitted).mode (s.routes.allNeutral outs)
    lost := decide (0 < pl.lost s.intake.count)
    sat := outs.any fun o => o.2.sat
    lagWalk := pl.lag != pl.targetLag
    targetStep := ((s.intake.ring[pl.targetAge]?).map Record.step).getD 0
    lag := pl.lag
    values := WindowOut.values outs }

/-- A consuming composition with the ring not empty (R43). -/
def State.composeRing (s : State) (p : PortId) (transmitted : Bool) : Composed :=
  let pl := s.plan p
  let outs := s.outs p transmitted
  let d := s.frame p transmitted
  let port : Port := { s.ports[p] with state := d.state, lag := pl.lag, consumed := some pl.markAfter }
  { port := ((((port.raiseLimited pl.limited).countLost (pl.lost s.intake.count)).countSat d.sat).countResidue
      (outs.countP fun o => o.2.limited)).conclude p s.now transmitted d
    records := writeRecords s.routes.records outs }

/-- A port composes only while it is enabled and its output receive lane is ALIVE (R83, R101). -/
def State.mayCompose (s : State) (p : PortId) : Bool := s.ports[p].enabled && (s.lane (.output p)).alive

/-- A transmitted composition, or a SKIP (R42, R43). -/
def State.compose (p : PortId) (transmitted : Bool) (s : State) : State :=
  if s.mayCompose p then
    let c := if s.intake.ring.isEmpty then s.composeWait p transmitted else s.composeRing p transmitted
    { s with ports := s.ports.set p c.port, routes := { s.routes with records := c.records } }
  else s

/-! ## REPEAT (R64, R75, R76, R98) -/

/-- The effective lag walks at a REPEAT of a port that has started; one still in WAIT computes no target (R75, R76). -/
def State.repeatWalk (s : State) (p : PortId) (port : Port) : Port :=
  if port.state == .wait then port
  else
    let (target, limited) := s.targetLag p
    { port with lag := walk port.lag target }.raiseLimited limited

/-- A REPEAT composition resends the last-frame record with REPEAT set; without a record it is a transmitted composition
(R64, R98). -/
def State.composeRepeat (p : PortId) (s : State) : State :=
  if s.mayCompose p then
    match s.ports[p].lastFrame with
    | none => s.compose p true
    | some d =>
      s.updPort p fun port =>
        { s.repeatWalk p port with tx := port.tx.begin s.now (d.bytes p true) }.countRepeated
  else s

end Sys2Proof.Machine
end

