-- ==== Sys2Proof/Machine/Pacing.lean ====
section
/-! DEFINITION. The events of a port, its configuration, its loss of lane and its resets (chapter 05). -/

namespace Sys2Proof.Machine

/-! ## Pacing events (R87 to R94) -/

/-- The composition a pace mark causes when the transmitter is idle (R87). -/
def State.takeMark (p : PortId) (m : PaceMark) (s : State) : State :=
  match m with
  | .wantAdvance => s.compose p true
  | .want => s.composeRepeat p

/-- A mark becomes pending; replacing one counts an overrun (R88). -/
def Port.pendMark (m : PaceMark) (port : Port) : Port :=
  let port' := if port.mark.isSome then port.countPaceOverrun else port
  { port' with mark := some m }

/-- A PACE frame with WANT set, in PEER mode (R87, R88). -/
def State.wantFrame (p : PortId) (m : PaceMark) (s : State) : State :=
  if s.ports[p].tx.busy then s.updPort p (Port.pendMark m) else s.takeMark p m

/-- The timer's next expiry, one interval after an instant (R92, R94). -/
def Port.startTimer (from_ : Time) (port : Port) : Port :=
  { port with timer := some (from_ + BitVec.ofNat 32 port.cfg.interval) }

/-- The port takes a PACE frame: the latency is recorded first, whatever the mode and state (R68), and then the frame is
taken by the pacing mode (R83, R87, R94). -/
def State.takePace (p : PortId) (f : Frame) (s : State) : State :=
  let s := s.updPort p fun port => { port with latency := paceLatency f }
  if !s.ports[p].enabled then s
  else
    match s.ports[p].cfg.pacing with
    | .timer => s
    | .locked => s.updPort p (Port.startTimer s.now)
    | .peer =>
      match paceWant f, paceAdvance f with
      | false, false => s
      | false, true => s.compose p false
      | true, true => s.wantFrame p .wantAdvance
      | true, false => s.wantFrame p .want

/-- The end of a port's transmission: idle, and a pending mark is taken at the same event (R89). -/
def State.endDest (p : PortId) (s : State) : State :=
  let m := s.ports[p].mark
  let s := s.updPort p fun port => { port with tx := port.tx.finish, mark := none }
  match m with
  | none => s
  | some m => s.takeMark p m

/-- An expiry of the interval timer: the next one is scheduled whatever it causes (R92); then it passes without effect
on a lane that is DOWN (R101), overruns while the transmitter is sending, or composes (R93). -/
def State.expireTimer (p : PortId) (s : State) : State :=
  match s.ports[p].timer with
  | none => s
  | some t =>
    let s := s.updPort p (Port.startTimer t)
    if !(s.lane (.output p)).alive then s
    else if s.ports[p].tx.busy then s.updPort p Port.countTimerOverrun
    else s.compose p true

/-! ## Loss of the output lane (R100) -/

/-- The port is told that its receive lane has gone DOWN. -/
def Port.loseLane (port : Port) : Port :=
  { port.countLaneDown with tx := port.tx.cut, mark := none }

/-! ## Configure Port applied (R85, R86, R92, R103) -/

/-- OFF to ON (R85). -/
def Port.turnOn (now : Time) (port : Port) : Port :=
  let port : Port := { port with state := .wait, lag := 0, consumed := none, seq := 0, lastFrame := none, mark := none,
                                 tx := port.tx.finish, timer := none }
  match port.cfg.pacing with
  | .peer => port
  | .timer | .locked => port.startTimer now

/-- ON to OFF (R86). -/
def Port.turnOff (port : Port) : Port :=
  { port with state := .off, tx := port.tx.cut, mark := none, timer := none }

/-- ON to ON: only a change between PEER and the timed modes changes the runtime (R82, R92, R103). -/
def Port.repace (now : Time) (old : Pacing) (port : Port) : Port :=
  match old, port.cfg.pacing with
  | .peer, .timer | .peer, .locked => { port with mark := none }.startTimer now
  | .timer, .peer | .locked, .peer => { port with timer := none }
  | .peer, .peer | .timer, .timer | .timer, .locked | .locked, .timer | .locked, .locked => port

/-- The port takes a configuration, and its runtime follows by the change made (R153). -/
def Port.configure (now : Time) (c : PortConfig) (port : Port) : Port :=
  let new : Port := { port with cfg := c }
  match port.cfg.enable, c.enable with
  | false, true => new.turnOn now
  | true, false => new.turnOff
  | true, true => new.repace now port.cfg.pacing
  | false, false => new

/-- The entries whose records the change resets: those that enter an enabled window (R31, R36). -/
def PortConfig.entering (old new : PortConfig) : List EntryId :=
  if new.enable then
    if old.enable then new.window.filter fun i => !old.window.contains i else new.window
  else []

/-! ## Resets (R105, R106) -/

/-- Reset Unit RUNTIME: an enabled port enters WAIT, a port in OFF loses its consumption mark alone (R105). -/
def Port.resetRuntime (port : Port) : Port :=
  if port.enabled then
    { port with state := .wait, lag := 0, consumed := none, mark := none, tx := port.tx.cut, lastFrame := none }
  else { port with consumed := none }

/-- Reset Unit FULL: the power-on port, with a frame in flight cut (R106). -/
def Port.resetFull (port : Port) : Port := { Port.powerOn with tx := port.tx.cut }

/-- Reset Unit COUNTERS: counters 0 and conditions clear (R106, R170). -/
def Port.resetCounters (port : Port) : Port := { port with counters := {}, conditions := {} }

end Sys2Proof.Machine
end

