-- ==== Sys2Proof/Machine/Resets.lean ====
section
/-! DEFINITION. The resets of the whole unit: power-on, and the three scopes of Reset Unit (R21, R41, R105, R106, R140,
R161, R170). -/

namespace Sys2Proof.Machine

/-- The lanes with their counters at 0 (R140, R170). -/
def Link.clearLaneCounters (k : Link) : Link :=
  { k with lanes := k.lanes.map fun r => { r with counters := {} } }

/-- The route table after Reset Unit RUNTIME: every record is reset to its entry's neutral (R41). -/
def RouteTable.resetRuntime (t : RouteTable) : RouteTable :=
  { t with records := t.entries.map fun e => .resetTo e.neutral }

/-- The link interface after Reset Unit FULL: link states, assemblers and the address are kept, every frame in
transmission is cut and every queue is emptied (R140). -/
def Link.resetFull (k : Link) : Link :=
  { k.clearLaneCounters with
    upTx := k.upTx.cut, thruTx := k.thruTx.cut, forwarding := [], own := [], returns := [], lastServed := .ret }

/-- Reset Unit FULL (R161). -/
def State.resetFull (s : State) : State :=
  { s with intake := .powerOn, routes := .powerOn, ports := s.ports.map Port.resetFull, link := s.link.resetFull,
           executor := .idle, counters := {}, conditions := {} }

/-- Reset Unit RUNTIME (R161): configuration, counters and conditions are kept. -/
def State.resetRuntime (s : State) : State :=
  { s with intake := s.intake.resetRuntime, routes := s.routes.resetRuntime, ports := s.ports.map Port.resetRuntime,
           executor := .idle }

/-- Reset Unit COUNTERS (R161). -/
def State.resetCounters (s : State) : State :=
  { s with ports := s.ports.map Port.resetCounters, link := s.link.clearLaneCounters, executor := .idle,
           counters := {}, conditions := {} }

/-- Power-on or pin reset: every block in its power-on state, and the straps sampled (R21, R131). The host's queue and
the model's counter of choices are no part of the hardware and are kept. -/
def State.pinReset (straps : BitVec 4) (s : State) : State :=
  { State.powerOn straps with pending := s.pending, choices := s.choices }

end Sys2Proof.Machine
end

