-- ==== Sys2Proof/Machine/Requests.lean ====
section
/-! DEFINITION. The thirteen requests: their lists, checks, effects and results (8.3 to 8.8, chapter 10). -/

namespace Sys2Proof.Machine

/-! ## Statuses and request codes (R173) -/

/-- The reply statuses. -/
inductive Status where
  | done
  | adjusted
  | empty
  | badRequest
  | badIndex
  | badValue
  | badLimits
  | windowOverlap
  | windowTooLong
  | readInBatch
  | resetNotAlone
  | replyTooLong
  | notApplied
  | batchBroken
  | batchTooLong
  | batchTimeout
  deriving DecidableEq, Repr

/-- The status codes of R173. -/
def Status.code : Status → Byte
  | .done => 0x00
  | .adjusted => 0x01
  | .empty => 0x02
  | .badRequest => 0x10
  | .badIndex => 0x11
  | .badValue => 0x12
  | .badLimits => 0x13
  | .windowOverlap => 0x14
  | .windowTooLong => 0x15
  | .readInBatch => 0x16
  | .resetNotAlone => 0x17
  | .replyTooLong => 0x18
  | .notApplied => 0x19
  | .batchBroken => 0x20
  | .batchTooLong => 0x21
  | .batchTimeout => 0x22

/-- DONE, or ADJUSTED where a value was adjusted. -/
def Status.ofAdjusted (a : Bool) : Status := if a then .adjusted else .done

/-- The requests by name. -/
inductive ReqKind where
  | loadRoutes
  | readRoutes
  | loadCurve
  | readCurve
  | configurePort
  | readPort
  | configureSource
  | readSource
  | readHistory
  | readConditions
  | clearConditions
  | readCounters
  | resetUnit
  deriving DecidableEq, Repr

/-- The request of a code (R173). -/
def ReqKind.ofCode (c : Byte) : Option ReqKind :=
  match c.toNat with
  | 1 => some .loadRoutes
  | 2 => some .readRoutes
  | 3 => some .loadCurve
  | 4 => some .readCurve
  | 5 => some .configurePort
  | 6 => some .readPort
  | 7 => some .configureSource
  | 8 => some .readSource
  | 9 => some .readHistory
  | 10 => some .readConditions
  | 11 => some .clearConditions
  | 12 => some .readCounters
  | 13 => some .resetUnit
  | _ => none

/-- The body has the length R173 gives; for Load Routes the length its count requires, which a body too short to hold
the count has not (R147, R174). -/
def ReqKind.lengthOk (body : List Byte) : ReqKind → Bool
  | .loadRoutes => decide (2 ≤ body.length) && decide (body.length = 2 + 16 * (body.getD 1 0).toNat)
  | .readRoutes => decide (body.length = 2)
  | .loadCurve => decide (body.length = 19)
  | .readCurve => decide (body.length = 1)
  | .configurePort => decide (body.length = 17)
  | .readPort => decide (body.length = 1)
  | .configureSource => decide (body.length = 3)
  | .readSource => decide (body.length = 0)
  | .readHistory => decide (body.length = 1)
  | .readConditions => decide (body.length = 0)
  | .clearConditions => decide (body.length = 7)
  | .readCounters => decide (body.length = 3)
  | .resetUnit => decide (body.length = 1)

/-- The read requests; the others are write requests (R147). -/
def ReqKind.isRead : ReqKind → Bool
  | .readRoutes | .readCurve | .readPort | .readSource | .readHistory | .readConditions | .readCounters => true
  | .loadRoutes | .loadCurve | .configurePort | .configureSource | .clearConditions | .resetUnit => false

/-! ## Decoding a request list (R147) -/

/-- One request of a list: the code its result carries, and the body where the list holds all of it. -/
structure RawRequest where
  code : Byte
  body : Option (List Byte)
  deriving DecidableEq, Repr

/-- The requests of one payload, `fuel` bounding the number of steps. A remainder too short to hold a code and a body
length is one request, answered with code 00h (R147, R174). A body length past the end takes in the rest. -/
def decodeList : Nat → List Byte → List RawRequest
  | 0, _ => []
  | _ + 1, [] => []
  | _ + 1, [_] => [{ code := 0, body := none }]
  | fuel + 1, c :: n :: rest =>
    if rest.length < n.toNat then [{ code := c, body := none }]
    else { code := c, body := some (rest.take n.toNat) } :: decodeList fuel (rest.drop n.toNat)

/-- The requests of a payload. -/
def decodePayload (payload : List Byte) : List RawRequest := decodeList (payload.length + 1) payload

/-- The request and body of a list item, none where it is refused with BAD_REQUEST at decoding (R147). -/
def RawRequest.decode (r : RawRequest) : Option (ReqKind × List Byte) :=
  match ReqKind.ofCode r.code, r.body with
  | some k, some body => if k.lengthOk body then some (k, body) else none
  | _, _ => none

/-! ## Route entries as bytes (R29, R175) -/

/-- A signed comparison of two cue values. -/
def cueLe (a b : Cue) : Bool := decide (a.toInt ≤ b.toInt)

def decodeSource (b : Byte) : Option EntrySource :=
  if h : b.toNat < 48 then some (.slot ⟨b.toNat, h⟩) else if b = 0xFF then some .constant else none

def decodeKind (b : Byte) : Option Kind :=
  match b.toNat with
  | 0 => some .level
  | 1 => some .delta
  | 2 => some .peak
  | _ => none

def decodeAveraging (b : Byte) : Option Averaging :=
  match b.toNat with
  | 1 => some .w1
  | 2 => some .w2
  | 4 => some .w4
  | 8 => some .w8
  | _ => none

/-- Bits 0..3 of the curve byte: 0..7, 15 for NONE (`some none`), and none for the refused values (R175). -/
def decodeCurve (b : Byte) : Option (Option (Fin 8)) :=
  let v := (b.extractLsb' 0 4).toNat
  if h : v < 8 then some (some ⟨v, h⟩) else if v = 15 then some none else none

/-- A named yes or no (R171). -/
def decodeBool (b : Byte) : Option Bool :=
  match b.toNat with
  | 0 => some false
  | 1 => some true
  | _ => none

/-- W as it is stored: 1 on a DELTA or PEAK entry (R23, R29). -/
def storedWindow (k : Kind) (w : Averaging) : Averaging :=
  match k with
  | .level => w
  | .delta | .peak => .w1

/-- One entry of a Load Routes, checked field by field in the order of R29's table; the Bool says it was adjusted. -/
def checkEntry (b : List Byte) : Except Status (RouteEntry × Bool) :=
  match decodeSource (b.getD 0 0), decodeKind (b.getD 3 0), decodeAveraging (b.getD 4 0), decodeCurve (b.getD 7 0) with
  | some source, some kind, some w, some curve =>
    let slew := be16 b 14
    let lo := be16 b 8
    let hi := be16 b 10
    let neutral := be16 b 12
    if slew.msb then .error .badValue
    else if !cueLe lo hi then .error .badLimits
    else if !(cueLe lo neutral && cueLe neutral hi) then .error .badLimits
    else
      .ok ({ source := source, constant := be16 b 1, kind := kind, window := storedWindow kind w,
             invert := (b.getD 5 0).getLsbD 0, mirrorSensitive := (b.getD 5 0).getLsbD 1, gain := b.getD 6 0,
             curve := curve, lo := lo, hi := hi, neutral := neutral, slew := slew.setWidth 15 },
           storedWindow kind w != w)
  | _, _, _, _ => .error .badValue

/-- The entries of a Load Routes in index order, 16 bytes each; the first refusal is the request's (R29). -/
def checkEntries : Nat → List Byte → Except Status (List RouteEntry × Bool)
  | 0, _ => .ok ([], false)
  | n + 1, b =>
    match checkEntry b with
    | .error e => .error e
    | .ok (e, adj) =>
      match checkEntries n (b.drop 16) with
      | .error e => .error e
      | .ok (es, adj') => .ok (e :: es, adj || adj')

/-- The 16 bytes of an entry (R175). -/
def RouteEntry.bytes (e : RouteEntry) : List Byte :=
  [match e.source with
   | .slot i => BitVec.ofNat 8 i.val
   | .constant => 0xFF]
  ++ bytes16 e.constant
  ++ [e.kind.code, BitVec.ofNat 8 e.window.frames, byteOfBits [e.invert, e.mirrorSensitive], e.gain,
      match e.curve with
      | some c => BitVec.ofNat 8 c.val
      | none => 0x0F]
  ++ bytes16 e.lo ++ bytes16 e.hi ++ bytes16 e.neutral ++ bytes16 (e.slew.setWidth 16)

/-- The 9 bytes of a runtime record (R175). -/
def Runtime.bytes (r : Runtime) : List Byte :=
  bytes32 r.residue ++ bytes16 r.last ++ [boolCode r.carry.isSome] ++ bytes16 (r.carry.getD 0)

/-! ## Port configurations as bytes (R153, R176) -/

def decodeRole (b : Byte) : Option Role :=
  match b.toNat with
  | 0 => some .vision
  | 1 => some .sound
  | 2 => some .cab
  | _ => none

def decodePacing (b : Byte) : Option Pacing :=
  match b.toNat with
  | 0 => some .peer
  | 1 => some .timer
  | 2 => some .locked
  | _ => none

def decodeLagMode (b : Byte) : Option LagMode :=
  match b.toNat with
  | 0 => some .manual
  | 1 => some .auto
  | _ => none

/-- The smallest N that gives at least 16 µs at a given k (R91). -/
def leastN (k : BitVec 3) : BitVec 8 :=
  match k.toNat with
  | 0 => 15
  | 1 => 7
  | 2 => 3
  | 3 => 1
  | _ => 0

/-- N with an interval below 16 µs raised (R91). -/
def adjustN (k : BitVec 3) (n : BitVec 8) : BitVec 8 := if n.toNat < (leastN k).toNat then leastN k else n

/-- The scale taken within 1..16 (R82, R153). -/
def adjustScale (x : BitVec 8) : BitVec 8 := if x = 0 then 1 else if 16 < x.toNat then 16 else x

/-- The manual lag taken within 0..48 (R74, R153). -/
def adjustLag (x : BitVec 8) : BitVec 8 := if Config.maxLag < x.toNat then 48 else x

/-- The fade step's low 15 bits, a result of 0 taken as 1 (R153, R176). -/
def adjustFade (x : Half) : BitVec 15 := if x.extractLsb' 0 15 = 0 then 1 else x.extractLsb' 0 15

/-- The configuration a Configure Port body carries, as adjusted, and whether an adjustment was made; none where enable,
role, pacing, mirror, lag mode or k is none of its values (R153). -/
def decodeConfig (b : List Byte) : Option (PortConfig × Bool) :=
  match decodeBool (b.getD 1 0), decodeRole (b.getD 2 0), decodePacing (b.getD 5 0), decodeBool (b.getD 8 0),
        decodeLagMode (b.getD 10 0) with
  | some enable, some role, some pacing, some mirror, some lagMode =>
    if 7 < (b.getD 6 0).toNat then none
    else
      let k := (b.getD 6 0).setWidth 3
      let n := adjustN k (b.getD 7 0)
      let scale := adjustScale (b.getD 9 0)
      let lag := adjustLag (b.getD 11 0)
      let fade := adjustFade (be16 b 15)
      some ({ enable := enable, role := role, first := b.getD 3 0, count := b.getD 4 0, pacing := pacing, k := k, n := n,
              mirror := mirror, scale := scale, lagMode := lagMode, manualLag := lag, trim := be16 b 12,
              holdTime := b.getD 14 0, fadeStep := fade },
            n != b.getD 7 0 || scale != b.getD 9 0 || lag != b.getD 11 0 || (be16 b 15).extractLsb' 0 15 == 0)
  | _, _, _, _, _ => none

/-- Two windows share an index (R35). -/
def PortConfig.overlaps (a b : PortConfig) : Bool := a.window.any fun i => b.window.contains i

/-- The window of a port that is to be enabled shares an index with another enabled port's (R35). -/
def State.overlap (s : State) (p : PortId) (c : PortConfig) : Bool :=
  c.enable && (List.finRange 6).any fun q => q != p && s.ports[q].enabled && c.overlaps s.ports[q].cfg

/-- The checks of Configure Port in the order of R153. -/
def State.checkPort (s : State) (b : List Byte) : Except Status (PortId × PortConfig × Bool) :=
  if h : (b.getD 0 0).toNat < 6 then
    match decodeConfig b with
    | none => .error .badValue
    | some (c, adj) =>
      if 24 < c.count.toNat then .error .windowTooLong
      else if 95 < c.first.toNat then .error .badIndex
      else if 96 < c.first.toNat + c.count.toNat then .error .badIndex
      else if s.overlap ⟨_, h⟩ c then .error .windowOverlap
      else .ok (⟨_, h⟩, c, adj)
  else .error .badIndex

/-- The 17 bytes of a port's configuration (R176). -/
def PortConfig.bytes (p : PortId) (c : PortConfig) : List Byte :=
  [BitVec.ofNat 8 p.val, boolCode c.enable, c.role.code, c.first, c.count, c.pacing.code, c.k.setWidth 8, c.n,
   boolCode c.mirror, c.scale, c.lagMode.code, c.manualLag]
  ++ bytes16 c.trim ++ [c.holdTime] ++ bytes16 (c.fadeStep.setWidth 16)

/-! ## Validating and writing, request by request (R147 to R161) -/

/-- The work on a batch: the state as the requests so far leave it, and the entries whose records are to be reset once
every request has been written (R31, R148). -/
structure Work where
  state : State
  resets : List EntryId

/-- A Load Routes writes one entry; its record is to be reset where source, constant or kind differs from what the entry
held (R31, R149). -/
def Work.loadEntry (i : EntryId) (e : RouteEntry) (w : Work) : Work :=
  let old := w.state.routes.entries[i]
  { state := { w.state with routes := { w.state.routes with entries := w.state.routes.entries.set i e } }
    resets := if old.source != e.source || old.constant != e.constant || old.kind != e.kind then i :: w.resets
              else w.resets }

/-- A Load Routes writes its entries in index order from a first index. -/
def Work.loadEntries : Nat → List RouteEntry → Work → Work
  | _, [], w => w
  | i, e :: es, w => Work.loadEntries (i + 1) es (if h : i < 96 then w.loadEntry ⟨i, h⟩ e else w)

/-- Load Routes (R29, R149). -/
def Work.loadRoutes (b : List Byte) (w : Work) : Except Status (Status × Work) :=
  let first := (b.getD 0 0).toNat
  let count := (b.getD 1 0).toNat
  if count = 0 ∨ 12 < count then .error .badValue
  else if 95 < first ∨ 96 < first + count then .error .badIndex
  else
    match checkEntries count (b.drop 2) with
    | .error e => .error e
    | .ok (es, adj) => .ok (.ofAdjusted adj, w.loadEntries first es)

/-- Read Routes (R150). -/
def checkReadRoutes (b : List Byte) : Except Status Status :=
  let first := (b.getD 0 0).toNat
  let count := (b.getD 1 0).toNat
  if count = 0 ∨ 12 < count then .error .badValue
  else if 95 < first ∨ 96 < first + count then .error .badIndex
  else .ok .done

/-- Load Curve (R39, R151). -/
def Work.loadCurve (b : List Byte) (w : Work) : Except Status (Status × Work) :=
  if h : (b.getD 0 0).toNat < 8 then
    let c : Curve := { points := Vector.ofFn fun k : Fin 9 => be16 b (1 + 2 * k.val) }
    .ok (.done,
      { w with state := { w.state with routes := { w.state.routes with curves := w.state.routes.curves.set _ c h } } })
  else .error .badIndex

/-- Configure Port (R153). -/
def Work.configurePort (b : List Byte) (w : Work) : Except Status (Status × Work) :=
  match w.state.checkPort b with
  | .error e => .error e
  | .ok (p, c, adj) =>
    .ok (.ofAdjusted adj,
      { state := w.state.updPort p (Port.configure w.state.now c)
        resets := (w.state.ports[p].cfg.entering c) ++ w.resets })

/-- Configure Source (R18, R155): the values are clamped, never refused. -/
def Work.configureSource (b : List Byte) (w : Work) : Status × Work :=
  let nominal := be16 b 0
  let timeout := b.getD 2 0
  (.ofAdjusted (clampPeriod nominal != nominal || clampTimeout timeout != timeout),
   { w with state := w.state.configureSource nominal timeout })

/-- Clear Conditions: a set whose bit 7 is 1 is refused (R159, R178). -/
def Work.clearConditions (b : List Byte) (w : Work) : Except Status (Status × Work) :=
  if (b.take 7).any fun x => x.getLsbD 7 then .error .badValue
  else
    .ok (.done, { w with state := { w.state with
      conditions := w.state.conditions.clear (b.getD 0 0)
      ports := Vector.ofFn fun p : PortId =>
        { w.state.ports[p] with conditions := w.state.ports[p].conditions.clear (b.getD (1 + p.val) 0) } } })

/-- The counter groups (R160). -/
inductive Group where
  | link
  | part
  | port (p : PortId)
  deriving DecidableEq, Repr

/-- The group and clear choice of a Read Counters, checked in the order of R160; the port number is tested with group
PORT alone (R178). -/
def checkCounters (b : List Byte) : Except Status (Group × Bool) :=
  if 2 < (b.getD 0 0).toNat then .error .badValue
  else
    match decodeBool (b.getD 2 0) with
    | none => .error .badValue
    | some clear =>
      if (b.getD 0 0).toNat = 0 then .ok (.link, clear)
      else if (b.getD 0 0).toNat = 1 then .ok (.part, clear)
      else if h : (b.getD 1 0).toNat < 6 then .ok (.port ⟨_, h⟩, clear)
      else .error .badIndex

/-- Reset Unit (R161). -/
def Work.resetUnit (b : List Byte) (w : Work) : Except Status (Status × Work) :=
  match (b.getD 0 0).toNat with
  | 0 => .ok (.done, { w with state := w.state.resetFull })
  | 1 => .ok (.done, { w with state := w.state.resetRuntime })
  | 2 => .ok (.done, { w with state := w.state.resetCounters })
  | _ => .error .badValue

/-- A read passes or is refused, and writes nothing here: it is answered from the state the batch leaves. -/
def Work.read (w : Work) : Except Status Status → Except Status (Status × Work)
  | .error e => .error e
  | .ok st => .ok (st, w)

/-- The checks of a request's entry, and its writes. -/
def Work.request (k : ReqKind) (b : List Byte) (w : Work) : Except Status (Status × Work) :=
  match k with
  | .loadRoutes => w.loadRoutes b
  | .readRoutes => w.read (checkReadRoutes b)
  | .loadCurve => w.loadCurve b
  | .readCurve => w.read (if (b.getD 0 0).toNat < 8 then .ok .done else .error .badIndex)
  | .configurePort => w.configurePort b
  | .readPort => w.read (if (b.getD 0 0).toNat < 6 then .ok .done else .error .badIndex)
  | .configureSource => .ok (w.configureSource b)
  | .readSource => w.read (.ok .done)
  | .readHistory =>
    w.read (if 63 < (b.getD 0 0).toNat then .error .badIndex
            else if (b.getD 0 0).toNat < w.state.intake.count then .ok .done else .ok .empty)
  | .readConditions => w.read (.ok .done)
  | .clearConditions => w.clearConditions b
  | .readCounters =>
    w.read (match checkCounters b with
            | .error e => .error e
            | .ok _ => .ok .done)
  | .resetUnit => w.resetUnit b

/-- One request in its place: decoding, then the placement, then the checks of its entry (R147). `multi` says the batch
has two or more frames, `alone` that it holds one request. -/
def Work.take (multi alone : Bool) (r : RawRequest) (w : Work) : Except Status (Status × Work) :=
  match r.decode with
  | none => .error .badRequest
  | some (k, b) =>
    if k.isRead && multi then .error .readInBatch
    else if k == .resetUnit && !alone then .error .resetNotAlone
    else w.request k b

/-- The requests in order, to the first one refused; a refusal carries its place and status (R147). -/
def Work.takeAll (multi alone : Bool) : List RawRequest → Work → Except (Nat × Status) (List Status × Work)
  | [], w => .ok ([], w)
  | r :: rs, w =>
    match w.take multi alone r with
    | .error e => .error (0, e)
    | .ok (st, w) =>
      match Work.takeAll multi alone rs w with
      | .error (i, e) => .error (i + 1, e)
      | .ok (sts, w) => .ok (st :: sts, w)

/-- The resets of runtime records, made once every request of the batch has been written, to the neutrals the batch
leaves (R31, R148). -/
def Work.settle (w : Work) : State :=
  { w.state with routes := { w.state.routes with
      records := w.resets.foldl (fun v (i : EntryId) => v.set i (.resetTo w.state.routes.entries[i].neutral)) w.state.routes.records } }

/-! ## Results (R150 to R160, R174 to R178) -/

/-- One result of a reply (R174). -/
structure Result where
  code : Byte
  status : Status
  body : List Byte
  deriving DecidableEq, Repr

/-- The bytes of a result: code, status, body length, body (R172). -/
def Result.bytes (r : Result) : List Byte := [r.code, r.status.code, BitVec.ofNat 8 r.body.length] ++ r.body

/-- The result body of Read Routes: entries and records in index order (R150, R175). -/
def RouteTable.readRoutes (t : RouteTable) (first count : Nat) : List Byte :=
  (List.range count).flatMap fun j =>
    if h : first + j < 96 then t.entries[first + j].bytes ++ t.records[first + j].bytes else []

/-- The presence byte of Read Port (R176). -/
def Port.presence (p : Port) : Byte :=
  byteOfBits [p.timer.isSome, p.tx.busy, p.mark.isSome, p.mark.isSome, p.mark == some .wantAdvance, p.consumed.isSome,
              p.lastFrame.isSome]

/-- The result body of Read Port (R154, R176); a field whose thing is absent is sent as 0 (R171). -/
def State.readPort (s : State) (p : PortId) : List Byte :=
  let port := s.ports[p]
  port.cfg.bytes p
  ++ [port.state.code, BitVec.ofNat 8 port.lag]
  ++ bytes16 (port.latency.getD 0xFFFF)
  ++ [port.presence]
  ++ bytes16 (match port.timer with
              | none => 0
              | some t => (t - s.now).setWidth 16)
  ++ [match port.tx.sending with
      | none => 0
      | some x => (x.ends - s.now).setWidth 8,
      port.seq]
  ++ bytes32 (port.consumed.getD 0)
  ++ (match port.lastFrame with
      | none => [0, 0, 0]
      | some d => [d.seq, d.state.code, BitVec.ofNat 8 d.values.length])
  ++ [BitVec.ofNat 8 (s.targetLag p).1]

/-- The result body of Read Source (R19, R156, R176). -/
def State.readSource (s : State) : List Byte :=
  [s.intake.source.code, s.unitAddress.setWidth 8] ++ bytes16 s.intake.newestStep ++ bytes32 s.intake.ni
  ++ [BitVec.ofNat 8 s.intake.count] ++ bytes32 s.intake.e16
  ++ bytes32 (BitVec.ofNat 32 (s.intake.sinceLast s.now))

/-- The result body of Read History for a record (R20, R157, R176). -/
def Record.bytes (r : Record) : List Byte :=
  bytes32 r.index ++ bytes16 r.step ++ bytes32 r.time ++ [BitVec.ofNat 8 r.values.length] ++ r.values.flatMap bytes16

/-- The counters of a group in the order carried (R160). -/
def State.groupCounters (s : State) : Group → List Half
  | .link => s.link.lanes.toList.flatMap fun r => r.counters.list
  | .part => s.counters.list
  | .port p => s.ports[p].counters.list

/-- Every counter of a group becomes 0; conditions are not changed (R160). -/
def State.clearGroup (s : State) : Group → State
  | .link => { s with link := s.link.clearLaneCounters }
  | .part => { s with counters := {} }
  | .port p => s.updPort p fun port => { port with counters := {} }

/-- The result body of a request that passed, and the state it leaves: only Read Counters with clear yes changes it
(R148, R160). -/
def State.answer (k : ReqKind) (b : List Byte) (s : State) : List Byte × State :=
  match k with
  | .readRoutes => (s.routes.readRoutes (b.getD 0 0).toNat (b.getD 1 0).toNat, s)
  | .readCurve =>
    (if h : (b.getD 0 0).toNat < 8 then s.routes.curves[(b.getD 0 0).toNat].points.toList.flatMap bytes16 else [], s)
  | .readPort => (if h : (b.getD 0 0).toNat < 6 then s.readPort ⟨_, h⟩ else [], s)
  | .readSource => (s.readSource, s)
  | .readHistory =>
    (match s.intake.ring[(b.getD 0 0).toNat]? with
     | none => []
     | some r => r.bytes, s)
  | .readConditions => (s.conditions.byte :: s.ports.toList.map fun p => p.conditions.byte, s)
  | .readCounters =>
    match checkCounters b with
    | .error _ => ([], s)
    | .ok (g, clear) => ((s.groupCounters g).flatMap bytes16, if clear then s.clearGroup g else s)
  | .loadRoutes | .loadCurve | .configurePort | .configureSource | .clearConditions | .resetUnit => ([], s)

/-- The results of a batch whose requests all passed, in order, from the state the whole batch leaves (R148). -/
def State.answerAll : List RawRequest → List Status → State → List Result × State
  | r :: rs, st :: sts, s =>
    let (body, s) :=
      match r.decode with
      | none => ([], s)
      | some (k, b) => s.answer k b
    let (results, s) := State.answerAll rs sts s
    ({ code := r.code, status := st, body := body } :: results, s)
  | _, _, s => ([], s)

/-- The results of a batch with a refused request: its status at its place, NOT_APPLIED elsewhere, no bodies (R148). -/
def refusedResults : Nat → Status → List RawRequest → List Result
  | _, _, [] => []
  | 0, st, r :: rs =>
    { code := r.code, status := st, body := [] } :: rs.map fun r => { code := r.code, status := .notApplied, body := [] }
  | i + 1, st, r :: rs => { code := r.code, status := .notApplied, body := [] } :: refusedResults i st rs

/-- A single result that names no request (R174). -/
def loneResult (st : Status) : List Result := [{ code := 0, status := st, body := [] }]

/-- The payload of a list of results. -/
def payloadOf (rs : List Result) : List Byte := rs.flatMap Result.bytes

end Sys2Proof.Machine
end

