-- ==== Sys2Proof/Machine/Executor.lean ====
section
/-! DEFINITION. The management executor: batches, faults, and the execution of a closed batch (8.1 to 8.3). -/

namespace Sys2Proof.Machine

/-- A REPLY of this unit is built and joins the own-reply queue (R136). -/
def State.reply (tag : BitVec 8) (results : List Result) (s : State) : State :=
  s.joinOwn (replyFrame s.unitAddress tag (payloadOf results))

/-- The own-reply queue has a place (R136, R146, R147). -/
def State.replyPlace (s : State) : Bool := decide (s.link.own.length < Config.replyPlaces)

/-- A batch addressed to this unit is answered; a broadcast one builds no reply (R146, R148). -/
def State.replyTo (addr : Addressing) (tag : BitVec 8) (results : List Result) (s : State) : State :=
  match addr with
  | .unit => s.reply tag results
  | .broadcast => s

/-- A batch fault: it is counted and raised, and answered by a fault reply where the batch was addressed to this unit
and a place is free (R146). -/
def State.batchFault (st : Status) (tag : BitVec 8) (addr : Addressing) (s : State) : State :=
  let s := s.countBatchFault
  match addr with
  | .broadcast => s
  | .unit => if s.replyPlace then s.reply tag (loneResult st) else s.countRequestDropped

/-- What a batch's requests come to: the results, and the state the batch leaves where it is applied (R147, R148). -/
def State.runBatch (frames : List Frame) (s : State) : List Result × Option State :=
  let reqs := frames.flatMap fun f => decodePayload (framePayload f)
  match Work.takeAll (decide (2 ≤ frames.length)) (decide (reqs.length = 1)) reqs { state := s, resets := [] } with
  | .error (i, st) => (refusedResults i st reqs, none)
  | .ok (sts, w) =>
    let (results, s') := State.answerAll reqs sts w.settle
    (results, some s')

/-- A batch closes and is executed (R147, R148). A reply longer than 250 bytes is replaced, and its batch applies
nothing. -/
def State.closeBatch (tag : BitVec 8) (addr : Addressing) (frames : List Frame) (s : State) : State :=
  if addr == .unit && !s.replyPlace then s.countRequestDropped
  else
    let (results, applied) := s.runBatch frames
    if Config.maxReply < (payloadOf results).length then s.countRefused.replyTo addr tag (loneResult .replyTooLong)
    else
      match applied with
      | none => s.countRefused.replyTo addr tag results
      | some s' => s'.replyTo addr tag results

/-- A request frame taken in IDLE (R142). -/
def State.takeIdle (addr : Addressing) (f : Frame) (s : State) : State :=
  if frameChain f then { s with executor := .opened (frameTag f) addr s.now [f] }
  else { s with executor := .idle }.closeBatch (frameTag f) addr [f]

/-- The executor takes a request frame by its mode, the match and the CHAIN bit (R142, R143). -/
def State.takeRequest (addr : Addressing) (f : Frame) (s : State) : State :=
  match s.executor with
  | .idle => s.takeIdle addr f
  | .opened tag addr' start frames =>
    if tag = frameTag f ∧ addr' = addr then
      if frames.length < Config.batchFrames then
        if frameChain f then { s with executor := .opened tag addr start (frames ++ [f]) }
        else { s with executor := .idle }.closeBatch tag addr (frames ++ [f])
      else
        { s with executor := if frameChain f then .draining tag addr else .idle }.batchFault .batchTooLong tag addr
    else ({ s with executor := .idle }.batchFault .batchBroken tag addr').takeIdle addr f
  | .draining tag addr' =>
    if tag = frameTag f ∧ addr' = addr then
      if frameChain f then s else { s with executor := .idle }
    else { s with executor := .idle }.takeIdle addr f

/-- A frame discarded on the upstream receive lane, or the lane's loss of lock, is reported: an open batch is broken and
its remaining frames drained (R130, R145). -/
def State.reportDiscard (s : State) : State :=
  match s.executor with
  | .opened tag addr _ _ => { s with executor := .draining tag addr }.batchFault .batchBroken tag addr
  | .idle | .draining _ _ => s

/-- The batch timeout has run out (R144). -/
def State.batchExpired (s : State) : Bool :=
  match s.executor with
  | .opened _ _ start _ => decide (Config.batchTimeout ≤ since s.now start)
  | _ => false

/-- The expiry of the batch timeout (R144). -/
def State.expireBatch (s : State) : State :=
  match s.executor with
  | .opened tag addr _ _ => { s with executor := .draining tag addr }.batchFault .batchTimeout tag addr
  | .idle | .draining _ _ => s

/-- How an address byte reaches this unit; none where it does not (R131, R132). Address 15 is broadcast, and a unit
strapped 15 answers to that alone. -/
def State.addressing (s : State) (address : Byte) : Option Addressing :=
  if address = 15 then some .broadcast
  else if address = s.unitAddress.setWidth 8 then some .unit
  else none

/-- A good REQUEST frame is routed (R132): to the executor, to the forwarding queue, or to both. A broadcast frame joins
the queue after the executor has taken it, so that a FULL reset it carries does not empty it away. -/
def State.routeRequest (f : Frame) (s : State) : State :=
  match s.addressing (frameAddress f) with
  | some .unit => s.takeRequest .unit f
  | some .broadcast => (s.takeRequest .broadcast f).forward f
  | none => s.forward f

end Sys2Proof.Machine
end

