-- ==== Sys2Proof/Machine/Receive.lean ====
section
/-! DEFINITION. A receive lane: link state, frame assembler, and what a completed or discarded frame does (7.1, 7.2). -/

namespace Sys2Proof.Machine

/-- Set a lane's link state. -/
def State.setLink (l : Lane) (x : LinkState) (s : State) : State := s.updLane l fun r => { r with link := x }

/-- Set a lane's frame assembler. -/
def State.setAsm (l : Lane) (x : Option Frame) (s : State) : State := s.updLane l fun r => { r with asm := x }

/-- A discard on the upstream receive lane is reported to the executor; one on another lane is not (R130). -/
def State.reportOn (l : Lane) (s : State) : State :=
  match l with
  | .upstream => s.reportDiscard
  | .thru | .output _ => s

/-! ## Gaining and losing lock (R124) -/

/-- The lane becomes ALIVE, its fault run 0 and its assembler between frames; the upstream arbiter chooses (R124, R137),
and a port is told but does nothing (R102). -/
def State.becomeAlive (l : Lane) (s : State) : State :=
  let s := s.updLane l fun r => { r with link := .alive 0, asm := none }
  match l with
  | .upstream => s.arbitrate
  | .thru | .output _ => s

/-- The owner of a lane that lost lock is told, and the pair's transmission is cut (R100, R124, R133, R139, R145). -/
def State.tellLoss (l : Lane) (s : State) : State :=
  match l with
  | .upstream => { s with link := { s.link with upTx := s.link.upTx.cut } }.reportDiscard
  | .thru => { s with link := { s.link with thruTx := s.link.thruTx.cut, forwarding := [] } }
  | .output p => s.updPort p Port.loseLane

/-- The loss of lock: DOWN with its IDLE run 0, the frame in assembly discarded without a count, LOCK_LOSSES counted and
the owner told (R124). -/
def State.loseLock (l : Lane) (s : State) : State :=
  ((s.updLane l fun r => { r with link := .down 0, asm := none }).countLockLoss l).tellLoss l

/-- A symbol time without a valid symbol on an ALIVE lane: the sixteenth in a row loses lock (R124). -/
def State.faultTime (l : Lane) (run : Nat) (s : State) : State :=
  if run < 15 then s.setLink l (.alive (run + 1)) else s.loseLock l

/-! ## Discarding a frame (R123, R126, R128, R130) -/

/-- An invalid code on an ALIVE lane: it is counted, and discards a frame in assembly (R123). -/
def State.invalidCode (l : Lane) (s : State) : State :=
  let s := s.countCodeError l
  match (s.lane l).asm with
  | none => s
  | some _ => (s.setAsm l none).reportOn l

/-- A START or IDLE within a frame, or a byte too many: BAD_FRAMES; a START begins a new frame (R126). -/
def State.breakFrame (l : Lane) (next : Option Frame) (s : State) : State :=
  ((s.countBadFrame l).setAsm l next).reportOn l

/-- An ABORT within a frame (R126). -/
def State.abortFrame (l : Lane) (s : State) : State := ((s.countAborted l).setAsm l none).reportOn l

/-- A completed frame that fails a check has its one count and is discarded (R128). -/
def State.failFrame (l : Lane) (why : FrameFault) (s : State) : State :=
  let s := s.setAsm l none
  match why with
  | .crc => (s.countCrcError l).reportOn l
  | .size | .length | .cls | .content => (s.countBadFrame l).reportOn l

/-! ## Good frames (R132, R134, R135) -/

/-- A good CUE frame: handed to the intake, and forwarded whatever the intake decides (R1, R132). -/
def State.takeCue (f : Frame) (s : State) : State := (s.takeCueIntake f).forward f

/-- A good frame is routed by its lane and class. -/
def State.route (l : Lane) (f : Frame) (s : State) : State :=
  match l with
  | .upstream =>
    match frameClass f with
    | some .cue => s.takeCue f
    | _ => s.routeRequest f
  | .thru => s.joinReturn f
  | .output p => s.takePace p f

/-- The END of a frame: the assembler is between frames, and the frame is checked (R126, R128). -/
def State.completeFrame (l : Lane) (f : Frame) (s : State) : State :=
  match checkFrame l f with
  | some why => s.failFrame l why
  | none => (s.setAsm l none).route l f

/-! ## One symbol time (R123, R124, R126) -/

/-- The assembler takes a valid symbol by its state (R126). -/
def State.assemble (l : Lane) (sym : Symbol) (s : State) : State :=
  match (s.lane l).asm with
  | none =>
    match sym with
    | .startSym => s.setAsm l (some [])
    | _ => s
  | some bytes =>
    match sym with
    | .startSym => s.breakFrame l (some [])
    | .data b => if bytes.length < Config.maxFrame then s.setAsm l (some (bytes ++ [b])) else s.breakFrame l none
    | .endSym => s.completeFrame l bytes
    | .abortSym => s.abortFrame l
    | .idleSym => s.breakFrame l none
    | .invalid | .noSignal => s

/-- What a receive lane presents at one symbol time is taken by its link state (R123, R124). -/
def State.receive (l : Lane) (sym : Symbol) (s : State) : State :=
  match (s.lane l).link with
  | .down run =>
    if sym = .idleSym then if run < 3 then s.setLink l (.down (run + 1)) else s.becomeAlive l
    else s.setLink l (.down 0)
  | .alive run =>
    match sym with
    | .invalid => (s.invalidCode l).faultTime l run
    | .noSignal => s.faultTime l run
    | .data _ | .startSym | .endSym | .abortSym | .idleSym => (s.setLink l (.alive 0)).assemble l sym

/-! ## Which receive events hold in a state -/

/-- The frame in assembly on an ALIVE lane. -/
def State.inFrame (s : State) (l : Lane) : Option Frame := if (s.lane l).alive then (s.lane l).asm else none

/-- The good frame of a class that the END symbol would complete on a lane. -/
def State.goodFrame (s : State) (l : Lane) (c : FrameClass) : Option Frame :=
  (s.inFrame l).filter fun f => isGood l c f

/-- The fourth consecutive IDLE symbol makes the lane ALIVE (R124). -/
def State.aliveDue (s : State) (l : Lane) : Bool :=
  match (s.lane l).link with
  | .down run => decide (3 ≤ run)
  | .alive _ => false

/-- The next symbol time without a valid symbol is the sixteenth (R124). -/
def State.lossDue (s : State) (l : Lane) : Bool :=
  match (s.lane l).link with
  | .down _ => false
  | .alive run => decide (15 ≤ run)

/-- A symbol that breaks the frame in assembly: START, IDLE, or data after 256 bytes (R126). -/
def breaksFrame (sym : Symbol) (bytes : Frame) : Bool :=
  match sym with
  | .startSym | .idleSym => true
  | .data _ => decide (Config.maxFrame ≤ bytes.length)
  | .endSym | .abortSym | .invalid | .noSignal => false

/-- The END symbol clears the lane's fault run and its assembler before the completed frame is taken. -/
def State.endFrame (l : Lane) (s : State) : State := (s.setLink l (.alive 0)).setAsm l none

end Sys2Proof.Machine
end

