-- ==== Sys2Proof/Machine/Events.lean ====
section
/-! DEFINITION. The meaning of each command, and the passing of time on an empty queue. A command whose event does not
hold in the present state changes nothing (DESIGN CHOICE, log 4). -/

namespace Sys2Proof.Machine

/-- The outcome type of this part. -/
abbrev Answer := Host.Outcome State Fault Refusal

/-! ## Reset -/

/-- POWER_ON_RESET (R21, R131): every block in its power-on state, the straps sampled. -/
def execPowerOnReset (straps : BitVec 4) (s : State) : Answer := .next (s.pinReset straps)

/-! ## Receive lanes -/

/-- LINK_ALIVE (R124): an IDLE symbol on a lane whose IDLE run is 3. -/
def execLinkAlive (l : Lane) (s : State) : Answer := .next (if s.aliveDue l then s.becomeAlive l else s)

/-- LOCK_LOSS (R124): the sixteenth symbol time without a valid symbol. Where it presents an invalid code, that is a code
error first (R123; DEDUCED, log 16). -/
def execLockLoss (l : Lane) (sym : Symbol) (s : State) : Answer :=
  .next
    (if s.lossDue l then
      match sym with
      | .noSignal => s.loseLock l
      | .invalid => (s.invalidCode l).loseLock l
      | .data _ | .startSym | .endSym | .abortSym | .idleSym => s
    else s)

/-- CODE_ERROR (R123): an invalid code on an ALIVE lane, which also adds to its fault run (R124). -/
def execCodeError (l : Lane) (s : State) : Answer :=
  .next
    (match (s.lane l).link with
    | .down _ => s
    | .alive run => (s.invalidCode l).faultTime l run)

/-- FRAME_ABORTED (R126): an ABORT symbol within a frame. -/
def execFrameAborted (l : Lane) (s : State) : Answer :=
  .next (if (s.inFrame l).isSome then (s.setLink l (.alive 0)).abortFrame l else s)

/-- BAD_FRAME_SYMBOL (R126): a START or IDLE within a frame, or its 257th byte. -/
def execBadFrameSymbol (l : Lane) (sym : Symbol) (s : State) : Answer :=
  .next
    (match s.inFrame l with
    | none => s
    | some bytes =>
      if breaksFrame sym bytes then
        (s.setLink l (.alive 0)).breakFrame l (if sym = .startSym then some [] else none)
      else s)

/-- FRAME_CHECK_FAILED (R128): the END of a frame that fails a check. -/
def execFrameCheckFailed (l : Lane) (s : State) : Answer :=
  .next
    (match s.inFrame l with
    | none => s
    | some f =>
      match checkFrame l f with
      | none => s
      | some why => (s.setLink l (.alive 0)).failFrame l why)

/-- CUE_FRAME (R1, R2, R132): the END of a good CUE frame on the upstream receive lane. -/
def execCueFrame (s : State) : Answer :=
  .next
    (match s.goodFrame .upstream .cue with
    | none => s
    | some f => (s.endFrame .upstream).takeCue f)

/-- REQUEST_FRAME (R132, R142): the END of a good REQUEST frame on the upstream receive lane. -/
def execRequestFrame (s : State) : Answer :=
  .next
    (match s.goodFrame .upstream .request with
    | none => s
    | some f => (s.endFrame .upstream).routeRequest f)

/-- REPLY_FRAME (R134): the END of a good REPLY frame on the thru receive lane. -/
def execReplyFrame (s : State) : Answer :=
  .next
    (match s.goodFrame .thru .reply with
    | none => s
    | some f => (s.endFrame .thru).joinReturn f)

/-- PACE_FRAME (R68, R87, R135): the END of a good PACE frame on an output receive lane. -/
def execPaceFrame (p : PortId) (s : State) : Answer :=
  .next
    (match s.goodFrame (.output p) .pace with
    | none => s
    | some f => (s.endFrame (.output p)).takePace p f)

/-- SYMBOL_TIME (R123, R124, R126): a lane presents a symbol, an invalid code or no signal. -/
def execSymbolTime (l : Lane) (sym : Symbol) (s : State) : Answer := .next (s.receive l sym)

/-! ## Timed events -/

/-- The interval timer's scheduled expiry has been reached (R92). -/
def State.timerDue (s : State) (p : PortId) : Bool :=
  match s.ports[p].timer with
  | none => false
  | some t => reached s.now t

/-- THRU_TRANSMIT_END (R133). -/
def execThruTransmitEnd (s : State) : Answer := .next (if s.link.thruTx.ended s.now then s.endForward else s)

/-- SOURCE_TIMEOUT_EXPIRY (R12). -/
def execSourceTimeoutExpiry (s : State) : Answer :=
  .next (if s.intake.timedOut s.now then s.expireAtInstant else s)

/-- BATCH_TIMEOUT (R144). -/
def execBatchTimeout (s : State) : Answer := .next (if s.batchExpired then s.expireBatch else s)

/-- UPSTREAM_TRANSMIT_END (R137). -/
def execUpstreamTransmitEnd (s : State) : Answer := .next (if s.link.upTx.ended s.now then s.endUpstream else s)

/-- INTERVAL_TIMER_EXPIRY (R92, R93, R101). -/
def execIntervalTimerExpiry (p : PortId) (s : State) : Answer := .next (if s.timerDue p then s.expireTimer p else s)

/-- DEST_TRANSMISSION_END (R89). -/
def execDestTransmissionEnd (p : PortId) (s : State) : Answer :=
  .next (if s.ports[p].tx.ended s.now then s.endDest p else s)

/-! ## The empty queue (log 2, log 3) -/

/-- The timed events due at this instant. -/
def State.dueEvents (s : State) : List Instr :=
  (if s.link.thruTx.ended s.now then [.thruTransmitEnd] else [])
  ++ (if s.link.upTx.ended s.now then [.upstreamTransmitEnd] else [])
  ++ (if s.intake.timedOut s.now then [.sourceTimeoutExpiry] else [])
  ++ (if s.batchExpired then [.batchTimeout] else [])
  ++ ((List.finRange 6).filter fun p => s.timerDue p).map .intervalTimerExpiry
  ++ ((List.finRange 6).filter fun p => s.ports[p].tx.ended s.now).map .destTransmissionEnd

/-- The event an idle part takes: none where nothing is due, and the one chosen by a free value of several (log 3). -/
def pickEvent (choice : Nat) : List Instr → Option Instr
  | [] => none
  | [e] => some e
  | e :: e' :: es => (e :: e' :: es)[choice % (es.length + 2)]?

/-- The event an idle part takes in a state. -/
def State.idleEvent (s : State) : Option Instr := pickEvent (Config.choice s.choices) s.dueEvents

/-- The ABORT symbol of a cut is over once the timebase has counted (R125). -/
def Transmitter.settle (t : Transmitter) : Transmitter := { t with abort := false }

/-- The stamps of a source state as the timebase comes to read `now` (R14). -/
def SourceState.advance (now : Time) : SourceState → SourceState
  | .absent => .absent
  | .live t => .live (t.advance now)
  | .silent t u => .silent (t.advance now) (u.advance now)

/-- One µs of the timebase (00_scope, Conventions: Time; DESIGN CHOICE, log 2). -/
def State.tick (s : State) : State :=
  { s with
    now := s.now + 1
    intake := { s.intake with source := s.intake.source.advance (s.now + 1) }
    link := { s.link with upTx := s.link.upTx.settle, thruTx := s.link.thruTx.settle }
    ports := s.ports.map fun port => { port with tx := port.tx.settle } }

end Sys2Proof.Machine
end

