-- ==== Sys2Proof/Machine/Dispatch.lean ====
section
/-! DEFINITION. The meaning of every command: one arm per constructor. -/

namespace Sys2Proof.Machine

def exec (i : Instr) (s : State) : Host.Outcome State Fault Refusal :=
  match i with
  | .powerOnReset straps => Sys2Proof.Machine.execPowerOnReset straps s
  | .linkAlive l => Sys2Proof.Machine.execLinkAlive l s
  | .lockLoss l sym => Sys2Proof.Machine.execLockLoss l sym s
  | .codeError l => Sys2Proof.Machine.execCodeError l s
  | .frameAborted l => Sys2Proof.Machine.execFrameAborted l s
  | .badFrameSymbol l sym => Sys2Proof.Machine.execBadFrameSymbol l sym s
  | .frameCheckFailed l => Sys2Proof.Machine.execFrameCheckFailed l s
  | .cueFrame => Sys2Proof.Machine.execCueFrame s
  | .thruTransmitEnd => Sys2Proof.Machine.execThruTransmitEnd s
  | .sourceTimeoutExpiry => Sys2Proof.Machine.execSourceTimeoutExpiry s
  | .requestFrame => Sys2Proof.Machine.execRequestFrame s
  | .batchTimeout => Sys2Proof.Machine.execBatchTimeout s
  | .replyFrame => Sys2Proof.Machine.execReplyFrame s
  | .upstreamTransmitEnd => Sys2Proof.Machine.execUpstreamTransmitEnd s
  | .paceFrame p => Sys2Proof.Machine.execPaceFrame p s
  | .intervalTimerExpiry p => Sys2Proof.Machine.execIntervalTimerExpiry p s
  | .destTransmissionEnd p => Sys2Proof.Machine.execDestTransmissionEnd p s
  | .symbolTime l sym => Sys2Proof.Machine.execSymbolTime l sym s

end Sys2Proof.Machine
end

