-- ==== Sys2Proof/Machine/Step.lean ====
section
/-! DEFINITION. One step: the command at the front of the queue, or the part by itself on an empty queue. -/

namespace Sys2Proof.Machine

/-- One step. On an empty queue the part takes a timed event that is due, and otherwise lets one µs pass (log 2). -/
def step (s : State) : Host.Outcome State Fault Refusal :=
  match s.pending with
  | c :: rest => exec c { s with pending := rest }
  | [] =>
    match s.idleEvent with
    | some e => exec e { s with choices := s.choices + 1 }
    | none => .next s.tick

/-- The command a word spells, put at the front of the queue; no word spells one (log 18). -/
def State.withFetchWord (s : State) (nbits w : Nat) : State :=
  match decodeTableWord nbits w with
  | some c => { s with pending := c :: s.pending }
  | none => s

end Sys2Proof.Machine
end

