-- ==== Sys2Proof/Safety.lean ====
section
/-! DEFINITION. What the statements speak of: the invariants that every step keeps, the event a command names, and what a
frame's routing and a port's composition leave. -/

namespace Sys2Proof.Machine

/-! ## Invariants of the cue intake (R7, R8, R9, R11, R17, R18) -/

/-- The numbers of the intake lie within the ranges the spec gives them. -/
abbrev Intake.Bounded (i : Intake) : Prop :=
  i.ring.length ≤ 64 ∧ (∀ r ∈ i.ring, 1 ≤ r.values.length ∧ r.values.length ≤ 48)
  ∧ 1600 ≤ i.e16.toNat ∧ i.e16.toNat ≤ 320000 ∧ 100 ≤ i.nominal.toNat ∧ i.nominal.toNat ≤ 20000
  ∧ 2 ≤ i.timeout.toNat ∧ i.timeout.toNat ≤ 250

/-- The ring holds consecutive arrival indices, the newest Ni, the next one Ni + 1; no two records consecutive in the
ring carry the same step; and the newest step is that of the newest record (R7, R9). -/
abbrev Intake.Numbered (i : Intake) : Prop :=
  i.nextIndex = i.ni + 1
  ∧ (∀ k : Fin i.ring.length, i.ring[k].index = i.ni - BitVec.ofNat 32 k.val)
  ∧ (∀ k : Fin (i.ring.length - 1), (i.ring[k.val]'(by omega)).step ≠ (i.ring[k.val + 1]'(by omega)).step)
  ∧ i.newestStep = ((i.ring.head?).map Record.step).getD 0

/-- The ring is empty exactly while the source is ABSENT, and Ni then reads 0 (R7, 1.4). -/
abbrev Intake.SourceFits (i : Intake) : Prop :=
  (i.ring = [] ↔ i.source = .absent) ∧ (i.ring = [] → i.ni = 0)

/-- The invariant of the cue intake. -/
abbrev State.IntakeGood (s : State) : Prop := s.intake.Bounded ∧ s.intake.Numbered ∧ s.intake.SourceFits

/-! ## Invariants of the route table (R23, R27, R54) -/

/-- A route entry as Load Routes leaves it: its neutral lies within its limits, and W is 1 unless it is LEVEL. -/
abbrev RouteEntry.Valid (e : RouteEntry) : Prop :=
  e.lo.toInt ≤ e.neutral.toInt ∧ e.neutral.toInt ≤ e.hi.toInt ∧ (e.kind ≠ .level → e.window = .w1)

/-- A runtime record of an entry: a residue within -2^30..2^30, 0 unless the entry is DELTA, and no carry unless it is
PEAK. -/
abbrev Runtime.Fits (e : RouteEntry) (r : Runtime) : Prop :=
  -1073741824 ≤ r.residue.toInt ∧ r.residue.toInt ≤ 1073741824
  ∧ (e.kind ≠ .delta → r.residue = 0) ∧ (e.kind ≠ .peak → r.carry = none)

/-- The invariant of the route table. -/
abbrev State.RoutesGood (s : State) : Prop :=
  ∀ i : EntryId, s.routes.entries[i].Valid ∧ s.routes.records[i].Fits s.routes.entries[i]

/-! ## Invariants of the ports (R34, R35, R74, R76, R83, R88, R91, R92, R153) -/

/-- A port's configuration as Configure Port leaves it. -/
abbrev PortConfig.Valid (c : PortConfig) : Prop :=
  1 ≤ c.scale.toNat ∧ c.scale.toNat ≤ 16 ∧ c.manualLag.toNat ≤ 48 ∧ c.fadeStep ≠ 0
  ∧ c.count.toNat ≤ 24 ∧ c.first.toNat ≤ 95 ∧ c.first.toNat + c.count.toNat ≤ 96
  ∧ 16 ≤ c.interval ∧ c.interval ≤ 32768

/-- A port's runtime agrees with its configuration, the ring and its lane. -/
abbrev Port.Valid (p : Port) (ringEmpty laneAlive : Bool) : Prop :=
  p.cfg.Valid ∧ p.lag ≤ 48 ∧ p.latency ≠ some 0xFFFF
  ∧ (p.cfg.enable = false ↔ p.state = .off)
  ∧ (p.timer.isSome = true ↔ p.cfg.enable = true ∧ p.cfg.pacing ≠ .peer)
  ∧ (p.mark.isSome = true → p.cfg.enable = true ∧ p.cfg.pacing = .peer ∧ p.tx.busy = true)
  ∧ (p.tx.busy = true → p.cfg.enable = true ∧ laneAlive = true)
  ∧ (p.state = .wait → p.lag = 0 ∧ p.consumed = none)
  ∧ (ringEmpty = true → p.cfg.enable = true → p.state = .wait)

/-- The invariant of the ports. -/
abbrev State.PortsGood (s : State) : Prop :=
  ∀ p : PortId, s.ports[p].Valid s.intake.ring.isEmpty (s.lane (.output p)).alive

/-- No route entry lies within the windows of two enabled ports (R35). -/
abbrev State.WindowsDisjoint (s : State) : Prop :=
  ∀ p q : PortId, p ≠ q → s.ports[p].enabled = true → s.ports[q].enabled = true →
    ∀ i ∈ s.ports[p].cfg.window, i ∉ s.ports[q].cfg.window

/-! ## Invariants of the link interface and of the executor (R124, R126, R133, R134, R136, R137, R139, R141) -/

/-- A receive lane's runs and assembler keep within their ranges, and no frame is in assembly on a DOWN lane. -/
abbrev RxLane.Valid (r : RxLane) : Prop :=
  (match r.link with
   | .down run => decide (run ≤ 3 ∧ r.asm = none)
   | .alive run => decide (run ≤ 15)) = true
  ∧ (r.asm.getD []).length ≤ 256

/-- The invariant of the link interface. The thru transmitter sends exactly while its queue holds a frame; a frame is on
the upstream lane only while the queue the mark names holds it; and the arbiter leaves no frame waiting beside an idle
transmitter of an ALIVE lane. -/
abbrev State.LinkGood (s : State) : Prop :=
  (∀ k : Fin 8, s.link.lanes[k].Valid)
  ∧ s.link.own.length ≤ 4 ∧ s.link.returns.length ≤ 4
  ∧ (s.link.thruTx.busy = true ↔ s.link.forwarding ≠ [])
  ∧ ((s.lane .thru).alive = false → s.link.forwarding = [])
  ∧ ((s.lane .upstream).alive = false → s.link.upTx.busy = false)
  ∧ (s.link.upTx.busy = true → (match s.link.lastServed with | .own => s.link.own | .ret => s.link.returns) ≠ [])
  ∧ ((s.lane .upstream).alive = true → s.link.upTx.busy = false → s.link.own = [] ∧ s.link.returns = [])

/-- The invariant of the executor: an open batch holds one to four frames (R141). -/
abbrev State.ExecutorGood (s : State) : Prop :=
  (match s.executor with
   | .opened _ _ _ frames => decide (1 ≤ frames.length ∧ frames.length ≤ 4)
   | .idle | .draining _ _ => true) = true

/-! ## The event a command names -/

/-- The event a command names holds in a state. A reset and a symbol time can always come. -/
def State.eventHolds (s : State) : Instr → Bool
  | .powerOnReset _ => true
  | .linkAlive l => s.aliveDue l
  | .lockLoss l sym => s.lossDue l && !sym.valid
  | .codeError l => (s.lane l).alive
  | .frameAborted l => (s.inFrame l).isSome
  | .badFrameSymbol l sym =>
    match s.inFrame l with
    | none => false
    | some bytes => breaksFrame sym bytes
  | .frameCheckFailed l =>
    match s.inFrame l with
    | none => false
    | some f => (checkFrame l f).isSome
  | .cueFrame => (s.goodFrame .upstream .cue).isSome
  | .requestFrame => (s.goodFrame .upstream .request).isSome
  | .replyFrame => (s.goodFrame .thru .reply).isSome
  | .paceFrame p => (s.goodFrame (.output p) .pace).isSome
  | .thruTransmitEnd => s.link.thruTx.ended s.now
  | .upstreamTransmitEnd => s.link.upTx.ended s.now
  | .sourceTimeoutExpiry => s.intake.timedOut s.now
  | .batchTimeout => s.batchExpired
  | .intervalTimerExpiry p => s.timerDue p
  | .destTransmissionEnd p => s.ports[p].tx.ended s.now
  | .symbolTime _ _ => true

/-! ## What the routing of a frame leaves -/

/-- Only one receive lane differs between two states. -/
def State.OnlyLane (l : Lane) (s t : State) : Prop := ∀ m, m ≠ l → t.lane m = s.lane m

/-- The END of a frame has been taken on a lane: ALIVE with no fault run, between frames, its counters kept (R124, R126). -/
def State.FrameTaken (l : Lane) (s t : State) : Prop :=
  t.lane l = { s.lane l with link := .alive 0, asm := none } ∧ State.OnlyLane l s t

/-- A frame has been given to the thru pair: it joins the forwarding queue if the thru receive lane is ALIVE, and an idle
transmitter begins the oldest frame of the queue; on a DOWN lane nothing happens (R132, R133). -/
def State.Forwarded (f : Frame) (s t : State) : Prop :=
  if (s.lane .thru).alive then
    t.link.forwarding = s.link.forwarding ++ [f]
    ∧ t.link.thruTx =
        (if s.link.thruTx.busy then s.link.thruTx
         else s.link.thruTx.begin s.now ((s.link.forwarding ++ [f]).headD f))
  else t.link.forwarding = s.link.forwarding ∧ t.link.thruTx = s.link.thruTx

/-- A good request has been routed by its address (R132): a broadcast one is forwarded too, one of this unit is not. -/
def State.RoutedBy (addr : Addressing) (f : Frame) (s t : State) : Prop :=
  match addr with
  | .broadcast => State.Forwarded f s t
  | .unit => t.link.forwarding = s.link.forwarding ∧ t.link.thruTx = s.link.thruTx

/-- The upstream arbiter has been asked to choose, with the queues as `t` holds them and the lane ALIVE or not (R137,
R139): nothing while the lane is DOWN, the transmitter is sending or both queues are empty; else the oldest frame of the
queue the mark does not name, or of the only queue that holds one, is begun and the mark names its queue. -/
def State.Arbitrated (alive : Bool) (s t : State) : Prop :=
  if s.link.upTx.busy = true ∨ alive = false then
    t.link.upTx = s.link.upTx ∧ t.link.lastServed = s.link.lastServed
  else
    match t.link.own, t.link.returns with
    | [], [] => t.link.upTx = s.link.upTx ∧ t.link.lastServed = s.link.lastServed
    | f :: _, [] => t.link.upTx = s.link.upTx.begin s.now f ∧ t.link.lastServed = .own
    | [], g :: _ => t.link.upTx = s.link.upTx.begin s.now g ∧ t.link.lastServed = .ret
    | f :: _, g :: _ =>
      if s.link.lastServed = .own then t.link.upTx = s.link.upTx.begin s.now g ∧ t.link.lastServed = .ret
      else t.link.upTx = s.link.upTx.begin s.now f ∧ t.link.lastServed = .own

/-! ## What a batch fault leaves (R145, R146) -/

/-- A reply of this unit has been built: it joins the own-reply queue and the arbiter chooses (R136, R137). -/
def State.Replied (alive : Bool) (tag : BitVec 8) (payload : List Byte) (s t : State) : Prop :=
  t.link.own = s.link.own ++ [replyFrame s.unitAddress tag payload] ∧ State.Arbitrated alive s t

/-- No reply has been built: the own-reply queue and the upstream lane are as before. -/
def State.NotReplied (s t : State) : Prop :=
  t.link.own = s.link.own ∧ t.link.upTx = s.link.upTx ∧ t.link.lastServed = s.link.lastServed

/-- A batch fault has been taken, with the upstream lane ALIVE or not: BATCH_FAULTS is counted and BATCH_FAULT raised; a
batch of this unit is answered by one result that names no request where a place is free, else REQUESTS_DROPPED is
counted and DROPPED raised; a broadcast one is not answered. No other counter and no other condition changes, but
LINK_ERROR may. -/
def State.Faulted (alive : Bool) (st : Status) (tag : BitVec 8) (addr : Addressing) (s t : State) : Prop :=
  if addr = .unit ∧ 4 ≤ s.link.own.length then
    t.counters = { s.counters with batchFaults := addSat s.counters.batchFaults 1,
                                   requestsDropped := addSat s.counters.requestsDropped 1 }
    ∧ t.conditions = { s.conditions with batchFault := true, dropped := true, linkError := t.conditions.linkError }
    ∧ State.NotReplied s t
  else
    t.counters = { s.counters with batchFaults := addSat s.counters.batchFaults 1 }
    ∧ t.conditions = { s.conditions with batchFault := true, linkError := t.conditions.linkError }
    ∧ (if addr = .unit then State.Replied alive tag [0, st.code, 0] s t else State.NotReplied s t)

/-- Nothing of the executor, of the part counters and conditions but LINK_ERROR, or of the upstream replies has changed. -/
def State.NoFault (s t : State) : Prop :=
  t.executor = s.executor ∧ t.counters = s.counters
  ∧ t.conditions = { s.conditions with linkError := t.conditions.linkError } ∧ State.NotReplied s t

/-- A discard on a lane has been reported (R130, R145): on the upstream lane an open batch becomes a drain of its tag with
the fault BATCH_BROKEN; in the other modes, and on the other lanes, nothing happens. -/
def State.Reported (alive : Bool) (l : Lane) (s t : State) : Prop :=
  match l, s.executor with
  | .upstream, .opened tag addr _ _ => t.executor = .draining tag addr ∧ State.Faulted alive .batchBroken tag addr s t
  | _, _ => State.NoFault s t

/-- Only the receive lanes, the executor, the upstream replies and their reports differ between two states. -/
def State.OnlyReceiveSide (s t : State) : Prop :=
  t = { s with link := { s.link with lanes := t.link.lanes, own := t.link.own, upTx := t.link.upTx,
                                     lastServed := t.link.lastServed },
               executor := t.executor, counters := t.counters, conditions := t.conditions }

/-! ## What a composition leaves (R42, R43) -/

/-- The stages of an entry run at a composition, on a source value: a LEVEL entry's in RUN, where a frame carries its slot
(R50, R51), and a DELTA or PEAK entry's at a transmitted composition in RUN or HOLD (R52, R57, R111, R115). -/
def RouteEntry.StagesRunOn (e : RouteEntry) (sc : Scene) (r : Runtime) (v : Int) : Prop :=
  match e.kind with
  | .level => sc.mode = .run ∧ e.levelSource sc.ring sc.targetAge = some v
  | .delta =>
    sc.transmitted = true ∧ (sc.mode = .run ∨ sc.mode = .hold) ∧ v = clampInt (-32768) 32767 (e.total r sc.span)
  | .peak =>
    sc.transmitted = true ∧ (sc.mode = .run ∨ sc.mode = .hold) ∧ v = (peakOf (e.candidates r sc.span)).getD 0

/-- Only one port and the runtime records of its window differ between two states. -/
def State.OnlyPort (p : PortId) (s t : State) : Prop :=
  t = { s with ports := t.ports, routes := { s.routes with records := t.routes.records } }
  ∧ (∀ q : PortId, q ≠ p → t.ports[q] = s.ports[q])
  ∧ ∀ i : EntryId, i ∉ s.ports[p].cfg.window → t.routes.records[i] = s.routes.records[i]

end Sys2Proof.Machine
end

