-- ==== Sys2Proof/Certificates/Slice0/Obligations.lean ====
section
/-! DEFINITION. The statements for the provers, in the order of OBLIGATIONS.json. -/

open Sys2Proof Sys2Proof.Machine

/-! ## Steps -/

/-- A step takes the command at the front of the queue and runs it on the state with the queue's rest. -/
def Obligations.StepTakesFrontCommand : Prop :=
  ∀ (c : Instr) (rest : List Instr) (s : State),
    step { s with pending := c :: rest } = exec c { s with pending := rest }

/-- THE MODEL'S CHOICE (logs 2, 3 and 9): on an empty queue the part takes a timed event that is due, and otherwise lets one
µs pass, at which the stamps of the source state advance (R14) and the ABORT symbols of the cuts are over. The due events
are the timed commands whose event holds. -/
def Obligations.EmptyQueueTakesDueEventOrTicks : Prop :=
  ∀ s : State, s.pending = [] →
    (∀ e : Instr, e ∈ s.dueEvents ↔
      e.stimulus = none ∧ (∀ u, e ≠ .powerOnReset u) ∧ s.eventHolds e = true)
    ∧ (∀ e : Instr, s.dueEvents = [e] → step s = exec e { s with choices := s.choices + 1 })
    ∧ (s.dueEvents ≠ [] → ∃ e ∈ s.dueEvents, step s = exec e { s with choices := s.choices + 1 })
    ∧ (s.dueEvents = [] → ∃ t, step s = .next t
        ∧ t = { s with now := s.now + 1,
                       intake := { s.intake with source :=
                         match s.intake.source with
                         | .absent => .absent
                         | .live last => .live (last.advance (s.now + 1))
                         | .silent last since => .silent (last.advance (s.now + 1)) (since.advance (s.now + 1)) },
                       link := { s.link with upTx := { s.link.upTx with abort := false },
                                             thruTx := { s.link.thruTx with abort := false } },
                       ports := t.ports }
        ∧ ∀ p : PortId, t.ports[p] = { s.ports[p] with tx := { s.ports[p].tx with abort := false } })

/-- Every command answers a next state, whatever the state: the part never stops. THE MODEL'S CHOICES: a command whose event
does not hold answers a next state too (log 4), the timebase is kept but by a reset, since a command takes no time (log 2),
and the queue and the model's counter of choices are kept (log 3). -/
def Obligations.EveryCommandAnswersNext : Prop :=
  ∀ (c : Instr) (s : State), ∃ t, exec c s = .next t ∧ t.pending = s.pending ∧ t.choices = s.choices
    ∧ (t.now = s.now ∨ ∃ u, c = .powerOnReset u)

/-- A command is the event it names: where the event does not hold, the command changes nothing (THE MODEL'S CHOICE, log 4);
and a receive command whose event holds is the symbol time that its symbol makes (R123, R124, R126, R128). -/
def Obligations.CommandIsItsEvent : Prop :=
  (∀ (c : Instr) (s : State), s.eventHolds c = false → exec c s = .next s)
  ∧ ∀ (c : Instr) (l : Lane) (sym : Symbol) (s : State), c.stimulus = some (l, sym) → s.eventHolds c = true →
    exec c s = exec (.symbolTime l sym) s

/-! ## Reset (R7, R21, R40, R41, R81, R91, R106, R124, R131, R140, R141, R170) -/

/-- Every field after reset. The unit address 0 and the counter of choices 0 are the model's choice (logs 1 and 3). -/
def Obligations.ResetValues : Prop :=
  State.reset.pending = [] ∧ State.reset.choices = 0 ∧ State.reset.now = 0 ∧ State.reset.unitAddress = 0
  ∧ State.reset.intake = { ring := [], nextIndex := 1, ni := 0, newestStep := 0, source := .absent, e16 := 16000,
                           nominal := 1000, timeout := 20 }
  ∧ (∀ i : EntryId,
      State.reset.routes.entries[i] =
        { source := .slot 0, constant := 0, kind := .level, window := .w1, invert := false, mirrorSensitive := false,
          gain := 0, curve := none, lo := BitVec.ofInt 16 (-32768), hi := 32767, neutral := 0, slew := 0 }
      ∧ State.reset.routes.records[i] = { residue := 0, last := 0, carry := none })
  ∧ (∀ (i : Fin 8) (k : Fin 9),
      (State.reset.routes.curves[i].points[k]).toInt = if k.val = 8 then 32767 else -32768 + 8192 * (k.val : Int))
  ∧ (∀ p : PortId,
      State.reset.ports[p] =
        { cfg := { enable := false, role := .vision, first := 0, count := 0, pacing := .peer, k := 7, n := 7,
                   mirror := false, scale := 1, lagMode := .manual, manualLag := 0, trim := 0, holdTime := 10,
                   fadeStep := 256 },
          state := .off, lag := 0, latency := none, mark := none, timer := none, seq := 0, consumed := none,
          lastFrame := none, tx := { sending := none, abort := false },
          counters := { emitted := 0, skipped := 0, repeated := 0, paceOverruns := 0, timerOverruns := 0,
                        historyLost := 0, satCompositions := 0, residueSats := 0, laneDowns := 0 },
          conditions := { paceOverrun := false, timerOverrun := false, historyLost := false, saturated := false,
                          residueSaturated := false, lagLimited := false, laneDown := false } })
  ∧ (∀ k : Fin 8,
      State.reset.link.lanes[k] =
        { link := .down 0, asm := none,
          counters := { crcErrors := 0, codeErrors := 0, badFrames := 0, abortedFrames := 0, lockLosses := 0 } })
  ∧ State.reset.link.upTx = { sending := none, abort := false }
  ∧ State.reset.link.thruTx = { sending := none, abort := false }
  ∧ State.reset.link.forwarding = [] ∧ State.reset.link.own = [] ∧ State.reset.link.returns = []
  ∧ State.reset.link.lastServed = .ret ∧ State.reset.executor = .idle
  ∧ State.reset.counters = { cueAccepted := 0, stepStale := 0, gapSteps := 0, silentEntries := 0, batchFaults := 0,
                             requestsRefused := 0, requestsDropped := 0, returnsDropped := 0 }
  ∧ State.reset.conditions = { linkError := false, stepStale := false, stepGap := false, sourceSilent := false,
                               batchFault := false, refused := false, dropped := false }

/-- Power-on or pin reset gives every block its power-on state from any state, and samples the straps. -/
def Obligations.PowerOnResetGivesResetValues : Prop :=
  ∀ (straps : BitVec 4) (s : State),
    exec (.powerOnReset straps) s =
      .next { State.reset with unitAddress := straps, pending := s.pending, choices := s.choices }

/-! ## Counters and conditions -/

/-- A counter's addition saturates at 65535 (R162), and each report of R164, R165 and R166 adds its number to its one counter
and raises its one condition, and changes nothing else. -/
def Obligations.CounterAdditionSaturates : Prop :=
  (∀ (c : Half) (n : Nat), (addSat c n).toNat = min (c.toNat + n) 65535)
  ∧ (∀ n : Nat, addSat 65535 n = 65535)
  ∧ (∀ (l : Lane) (s : State) (k : LaneCounters) (raised : State), k = (s.lane l).counters →
      raised = { s with conditions := { s.conditions with linkError := true } } →
      s.countCrcError l = raised.updLane l (fun r => { r with counters := { k with crcErrors := addSat k.crcErrors 1 } })
      ∧ s.countCodeError l = raised.updLane l (fun r => { r with counters := { k with codeErrors := addSat k.codeErrors 1 } })
      ∧ s.countBadFrame l = raised.updLane l (fun r => { r with counters := { k with badFrames := addSat k.badFrames 1 } })
      ∧ s.countAborted l
          = s.updLane l (fun r => { r with counters := { k with abortedFrames := addSat k.abortedFrames 1 } })
      ∧ s.countLockLoss l = s.updLane l (fun r => { r with counters := { k with lockLosses := addSat k.lockLosses 1 } }))
  ∧ (∀ (n : Nat) (s : State) (k : PartCounters) (c : PartConditions), k = s.counters → c = s.conditions →
      s.countCueAccepted = { s with counters := { k with cueAccepted := addSat k.cueAccepted 1 } }
      ∧ s.countStepStale = { s with counters := { k with stepStale := addSat k.stepStale 1 },
                                    conditions := { c with stepStale := true } }
      ∧ s.countGap n = { s with counters := { k with gapSteps := addSat k.gapSteps n },
                                conditions := { c with stepGap := true } }
      ∧ s.countSilent = { s with counters := { k with silentEntries := addSat k.silentEntries 1 },
                                 conditions := { c with sourceSilent := true } }
      ∧ s.countBatchFault = { s with counters := { k with batchFaults := addSat k.batchFaults 1 },
                                     conditions := { c with batchFault := true } }
      ∧ s.countRefused = { s with counters := { k with requestsRefused := addSat k.requestsRefused 1 },
                                  conditions := { c with refused := true } }
      ∧ s.countRequestDropped = { s with counters := { k with requestsDropped := addSat k.requestsDropped 1 },
                                         conditions := { c with dropped := true } }
      ∧ s.countReturnDropped = { s with counters := { k with returnsDropped := addSat k.returnsDropped 1 },
                                        conditions := { c with dropped := true } })
  ∧ (∀ (n : Nat) (b : Bool) (p : Port) (k : PortCounters) (c : PortConditions), k = p.counters → c = p.conditions →
      p.countEmitted = { p with counters := { k with emitted := addSat k.emitted 1 } }
      ∧ p.countSkipped = { p with counters := { k with skipped := addSat k.skipped 1 } }
      ∧ p.countRepeated = { p with counters := { k with repeated := addSat k.repeated 1 } }
      ∧ p.countPaceOverrun = { p with counters := { k with paceOverruns := addSat k.paceOverruns 1 },
                                      conditions := { c with paceOverrun := true } }
      ∧ p.countTimerOverrun = { p with counters := { k with timerOverruns := addSat k.timerOverruns 1 },
                                       conditions := { c with timerOverrun := true } }
      ∧ p.countLaneDown = { p with counters := { k with laneDowns := addSat k.laneDowns 1 },
                                   conditions := { c with laneDown := true } }
      ∧ p.countLost n = { p with counters := { k with historyLost := addSat k.historyLost n },
                                 conditions := { c with historyLost := c.historyLost || decide (0 < n) } }
      ∧ p.countResidue n = { p with counters := { k with residueSats := addSat k.residueSats n },
                                    conditions := { c with residueSaturated := c.residueSaturated || decide (0 < n) } }
      ∧ p.countSat b = { p with counters := { k with satCompositions := addSat k.satCompositions (if b then 1 else 0) },
                                conditions := { c with saturated := c.saturated || b } }
      ∧ p.raiseLimited b = { p with conditions := { c with lagLimited := c.lagLimited || b } })

/-- The condition sets of Read Conditions and Clear Conditions (R177). -/
def Obligations.ConditionSetsAreSevenBytes : Prop :=
  (∀ (s : State), (s.answer .readConditions []).1.length = 7
    ∧ (s.answer .readConditions []).1.getD 0 0 = s.conditions.byte
    ∧ (∀ p : PortId, (s.answer .readConditions []).1.getD (1 + p.val) 0 = s.ports[p].conditions.byte)
    ∧ (s.answer .readConditions []).2 = s)
  ∧ (∀ body : List Byte, ReqKind.clearConditions.lengthOk body = true ↔ body.length = 7)
  ∧ (∀ c : PartConditions,
      c.byte.getLsbD 0 = c.linkError ∧ c.byte.getLsbD 1 = c.stepStale ∧ c.byte.getLsbD 2 = c.stepGap
      ∧ c.byte.getLsbD 3 = c.sourceSilent ∧ c.byte.getLsbD 4 = c.batchFault ∧ c.byte.getLsbD 5 = c.refused
      ∧ c.byte.getLsbD 6 = c.dropped)
  ∧ (∀ c : PortConditions,
      c.byte.getLsbD 0 = c.paceOverrun ∧ c.byte.getLsbD 1 = c.timerOverrun ∧ c.byte.getLsbD 2 = c.historyLost
      ∧ c.byte.getLsbD 3 = c.saturated ∧ c.byte.getLsbD 4 = c.residueSaturated ∧ c.byte.getLsbD 5 = c.lagLimited
      ∧ c.byte.getLsbD 6 = c.laneDown)
  ∧ (∀ (body : List Byte) (w : Work), body.length = 7 → (∀ b ∈ body, b.getLsbD 7 = false) →
      ∃ t, w.clearConditions body = .ok (.done, { w with state := t })
        ∧ t = { w.state with conditions := t.conditions, ports := t.ports }
        ∧ (∀ k, k < 7 → t.conditions.byte.getLsbD k = (w.state.conditions.byte.getLsbD k && !(body.getD 0 0).getLsbD k))
        ∧ (∀ (p : PortId), t.ports[p] = { w.state.ports[p] with conditions := t.ports[p].conditions }
            ∧ ∀ k, k < 7 → t.ports[p].conditions.byte.getLsbD k
                = (w.state.ports[p].conditions.byte.getLsbD k && !(body.getD (1 + p.val) 0).getLsbD k)))

/-! ## Cue intake -/

/-- CUE_FRAME while the source is ABSENT: the first frame since reset is accepted whatever its step (R3, R4, R132). -/
def Obligations.FirstCueFrameIsAccepted : Prop :=
  ∀ (s : State) (f : Frame), s.goodFrame .upstream .cue = some f → s.intake.source = .absent →
    ∃ t, exec .cueFrame s = .next t
      ∧ t = { s with
          intake := { s.intake with
            ring := ({ index := s.intake.nextIndex, step := cueStep f, time := s.now, values := cueValues f }
                      :: s.intake.ring).take 64
            nextIndex := s.intake.nextIndex + 1
            ni := s.intake.nextIndex
            newestStep := cueStep f
            source := .live { at_ := s.now, held := false } }
          link := { s.link with lanes := t.link.lanes, thruTx := t.link.thruTx, forwarding := t.link.forwarding }
          counters := { s.counters with cueAccepted := addSat s.counters.cueAccepted 1 } }
      ∧ State.FrameTaken .upstream s t ∧ State.Forwarded f s t

/-- CUE_FRAME at a step distance of 1..32767: the frame is accepted, a gap counted, and E16 updated by a sample within
100..20000 (R2, R4, R5, R11, R16, R17, R132). -/
def Obligations.CueFrameAheadIsAccepted : Prop :=
  ∀ (s : State) (f : Frame) (last : Stamp) (d sample : Nat),
    s.goodFrame .upstream .cue = some f → s.intake.last = some last →
    d = (cueStep f - s.intake.newestStep).toNat → 1 ≤ d → d ≤ 32767 → sample = last.elapsed s.now / d →
    ∃ t, exec .cueFrame s = .next t
      ∧ t = { s with
          intake := { s.intake with
            ring := ({ index := s.intake.nextIndex, step := cueStep f, time := s.now, values := cueValues f }
                      :: s.intake.ring).take 64
            nextIndex := s.intake.nextIndex + 1
            ni := s.intake.nextIndex
            newestStep := cueStep f
            source := .live { at_ := s.now, held := false }
            e16 := if 100 ≤ sample ∧ sample ≤ 20000
              then BitVec.ofNat 32 (s.intake.e16.toNat + sample - s.intake.e16.toNat / 16) else s.intake.e16 }
          link := { s.link with lanes := t.link.lanes, thruTx := t.link.thruTx, forwarding := t.link.forwarding }
          counters := { s.counters with
            cueAccepted := addSat s.counters.cueAccepted 1
            gapSteps := if 1 < d then addSat s.counters.gapSteps (d - 1) else s.counters.gapSteps }
          conditions := { s.conditions with stepGap := s.conditions.stepGap || decide (1 < d) } }
      ∧ State.FrameTaken .upstream s t ∧ State.Forwarded f s t

/-- CUE_FRAME at a step distance of 0 or 32768..65535: the frame is refused, STEP_STALE is counted and raised, nothing else
changes in the intake, and the frame is forwarded all the same (R2, R6, R132). -/
def Obligations.CueFrameBehindIsRefused : Prop :=
  ∀ (s : State) (f : Frame) (last : Stamp),
    s.goodFrame .upstream .cue = some f → s.intake.last = some last →
    (cueStep f = s.intake.newestStep ∨ 32768 ≤ (cueStep f - s.intake.newestStep).toNat) →
    ∃ t, exec .cueFrame s = .next t
      ∧ t = { s with
          link := { s.link with lanes := t.link.lanes, thruTx := t.link.thruTx, forwarding := t.link.forwarding }
          counters := { s.counters with stepStale := addSat s.counters.stepStale 1 }
          conditions := { s.conditions with stepStale := true } }
      ∧ t.intake = s.intake
      ∧ State.FrameTaken .upstream s t ∧ State.Forwarded f s t

/-- SOURCE_TIMEOUT_EXPIRY: the source becomes SILENT with the expiry instant as its silence start (R12). -/
def Obligations.SourceTimeoutMakesSilent : Prop :=
  ∀ (s : State) (last : Stamp), s.intake.source = .live last → s.intake.timeout.toNat * 1000 ≤ last.elapsed s.now →
    exec .sourceTimeoutExpiry s =
      .next { s with
        intake := { s.intake with
          source := .silent last { at_ := last.at_ + BitVec.ofNat 32 (s.intake.timeout.toNat * 1000), held := false } }
        counters := { s.counters with silentEntries := addSat s.counters.silentEntries 1 }
        conditions := { s.conditions with sourceSilent := true } }

/-- The step-period estimate moves by R17 and stays within 1600..320000; a settled value is left unchanged. -/
def Obligations.EstimateMovesWithinItsRange : Prop :=
  (∀ (e : BitVec 32) (x : Nat), 1600 ≤ e.toNat → e.toNat ≤ 320000 → 100 ≤ x → x ≤ 20000 →
    (updateE16 e x).toNat = e.toNat + x - e.toNat / 16
    ∧ 1600 ≤ (updateE16 e x).toNat ∧ (updateE16 e x).toNat ≤ 320000)
  ∧ (∀ (e : BitVec 32) (x : Nat), x < 100 ∨ 20000 < x → updateE16 e x = e)
  ∧ (∀ (e : BitVec 32) (x : Nat), 16 * x ≤ e.toNat → e.toNat ≤ 16 * x + 15 → updateE16 e x = e)

/-- An elapsed time of R14 counts µs up to 4294967295 and is then held, however often the timebase wraps;
the held mark is THE MODEL'S (log 9). -/
def Obligations.ElapsedTimeIsHeldAtItsGreatest : Prop :=
  (∀ now : Time, (Stamp.mark now).elapsed now = 0 ∧ (Stamp.mark now).held = false)
  ∧ ∀ (now : Time) (t : Stamp), (t.held = true ∨ t.elapsed now < 4294967295) →
    (t.advance (now + 1)).elapsed (now + 1) = min (t.elapsed now + 1) 4294967295
    ∧ ((t.advance (now + 1)).held = true ∨ (t.advance (now + 1)).elapsed (now + 1) < 4294967295)
    ∧ (t.advance (now + 1)).at_ = t.at_

/-- Configure Source clamps its values, restarts E16, and makes a LIVE source whose new timeout has already run out SILENT
at this event; nothing else changes; the request's status is ADJUSTED where a value was clamped, else DONE (R18). -/
def Obligations.ConfigureSourceTakesEffect : Prop :=
  ∀ (s : State) (nominal : Half) (timeout : BitVec 8), ∃ (n : Half) (ms : BitVec 8),
    (n.toNat : Int) = clampInt 100 20000 nominal.toNat ∧ (ms.toNat : Int) = clampInt 2 250 timeout.toNat
    ∧ (∀ last, s.intake.source = .live last → ms.toNat * 1000 ≤ last.elapsed s.now →
        s.configureSource nominal timeout =
          { s with
            intake := { s.intake with nominal := n, timeout := ms, e16 := BitVec.ofNat 32 (16 * n.toNat),
                                      source := .silent last { at_ := s.now, held := false } }
            counters := { s.counters with silentEntries := addSat s.counters.silentEntries 1 }
            conditions := { s.conditions with sourceSilent := true } })
    ∧ (∀ (w : Work) (b : List Byte), w.state = s → be16 b 0 = nominal → b.getD 2 0 = timeout →
        w.request .configureSource b =
          .ok (if n = nominal ∧ ms = timeout then .done else .adjusted,
               { w with state := s.configureSource nominal timeout }))
    ∧ ((∀ last, s.intake.source = .live last → ¬ ms.toNat * 1000 ≤ last.elapsed s.now) →
        s.configureSource nominal timeout =
          { s with
            intake := { s.intake with nominal := n, timeout := ms, e16 := BitVec.ofNat 32 (16 * n.toNat) } })

/-! ## Receive lanes -/

/-- The CRC (R127). -/
def Obligations.CrcLeavesZeroOnAnIntactFrame : Prop :=
  crc [] = 0xFFFF
  ∧ (∀ (bytes : List Byte) (b : Byte),
      crc (bytes ++ [b]) =
        ([7, 6, 5, 4, 3, 2, 1, 0].map fun k => b.getLsbD k).foldl
          (fun (r : BitVec 16) (bit : Bool) => if r.msb = bit then r <<< 1 else (r <<< 1) ^^^ 0x1021) (crc bytes))
  ∧ (∀ bytes : List Byte,
      withCrc bytes = bytes ++ [(crc bytes).extractLsb' 8 8, (crc bytes).extractLsb' 0 8] ∧ crc (withCrc bytes) = 0)
  ∧ (∀ (l : Lane) (f : Frame), 6 ≤ f.length → crc f ≠ 0 → checkFrame l f = some .crc)
  ∧ crc [0x31, 0x32, 0x33, 0x34, 0x35, 0x36, 0x37, 0x38, 0x39] = 0x29B1

/-- The checks of a completed frame: the first that fails, in the order of R128 (size, CRC, length, class, content), with the
classes and contents of R129. -/
def Obligations.FrameChecksRunInOrder : Prop :=
  ∀ (l : Lane) (f : Frame),
    (checkFrame l f = some .size ↔ f.length < 6)
    ∧ (checkFrame l f = some .crc ↔ 6 ≤ f.length ∧ crc f ≠ 0)
    ∧ (checkFrame l f = some .length ↔ 6 ≤ f.length ∧ crc f = 0 ∧ (f.getD 3 0).toNat ≠ f.length - 6)
    ∧ (checkFrame l f = some .cls ↔
        6 ≤ f.length ∧ crc f = 0 ∧ (f.getD 3 0).toNat = f.length - 6
        ∧ match l with
          | .upstream => (f.getD 0 0).toNat % 128 ≠ 1 ∧ (f.getD 0 0).toNat % 128 ≠ 2
          | .thru => (f.getD 0 0).toNat % 128 ≠ 3
          | .output _ => (f.getD 0 0).toNat % 128 ≠ 5)
    ∧ (checkFrame l f = some .content ↔
        6 ≤ f.length ∧ crc f = 0 ∧ (f.getD 3 0).toNat = f.length - 6
        ∧ match l with
          | .upstream =>
            ((f.getD 0 0).toNat % 128 = 1
              ∧ ¬ (1 ≤ (f.getD 6 0).toNat ∧ (f.getD 6 0).toNat ≤ 48 ∧ f.length = 10 + 2 * (f.getD 6 0).toNat))
            ∨ ((f.getD 0 0).toNat % 128 = 2 ∧ 15 < (f.getD 1 0).toNat)
          | .thru => False
          | .output _ => (f.getD 0 0).toNat % 128 = 5 ∧ f.length ≠ 10)
    ∧ (checkFrame l f = none ↔
        6 ≤ f.length ∧ crc f = 0 ∧ (f.getD 3 0).toNat = f.length - 6
        ∧ match l with
          | .upstream =>
            ((f.getD 0 0).toNat % 128 = 1 ∧ 1 ≤ (f.getD 6 0).toNat ∧ (f.getD 6 0).toNat ≤ 48
              ∧ f.length = 10 + 2 * (f.getD 6 0).toNat)
            ∨ ((f.getD 0 0).toNat % 128 = 2 ∧ (f.getD 1 0).toNat ≤ 15)
          | .thru => (f.getD 0 0).toNat % 128 = 3
          | .output _ => (f.getD 0 0).toNat % 128 = 5 ∧ f.length = 10)

/-- LINK_ALIVE: the fourth IDLE symbol in a row makes a DOWN lane ALIVE, between frames; the upstream arbiter then chooses,
and nothing else changes (R102, R124, R137, R139). -/
def Obligations.FourthIdleMakesLaneAlive : Prop :=
  ∀ (l : Lane) (s : State), s.aliveDue l = true →
    ∃ t, exec (.linkAlive l) s = .next t ∧ State.FrameTaken l s t
      ∧ t = { s with link := { s.link with lanes := t.link.lanes, upTx := t.link.upTx, lastServed := t.link.lastServed } }
      ∧ (if l = .upstream then State.Arbitrated true s t else State.NotReplied s t)

/-- LOCK_LOSS with no signal: the lane goes DOWN and its frame in assembly is lost, LOCK_LOSSES is counted, and the owner is
told: the executor (R145) and the arbiter (R139), the forwarding queue (R133) or the port (R100). With an invalid code, the
code error comes first (THE MODEL'S READING, log 16). -/
def Obligations.SixteenthFaultLosesLock : Prop :=
  ∀ (l : Lane) (s : State), s.lossDue l = true →
    exec (.lockLoss l .invalid) s = exec (.lockLoss l .noSignal) (s.invalidCode l)
    ∧ ∃ t, exec (.lockLoss l .noSignal) s = .next t ∧ State.OnlyLane l s t
      ∧ t.lane l = { link := .down 0, asm := none,
                     counters := { (s.lane l).counters with lockLosses := addSat (s.lane l).counters.lockLosses 1 } }
      ∧ match l with
        | .upstream =>
          State.OnlyReceiveSide s t ∧ t.conditions.linkError = s.conditions.linkError
          ∧ State.Reported false .upstream { s with link := { s.link with upTx := s.link.upTx.cut } } t
        | .thru =>
          t = { s with link := { s.link with lanes := t.link.lanes, thruTx := s.link.thruTx.cut, forwarding := [] } }
        | .output p =>
          t = { s with link := { s.link with lanes := t.link.lanes }, ports := t.ports }
          ∧ (∀ q, q ≠ p → t.ports[q] = s.ports[q])
          ∧ t.ports[p] =
            { s.ports[p] with
              tx := s.ports[p].tx.cut
              mark := none
              counters := { s.ports[p].counters with laneDowns := addSat s.ports[p].counters.laneDowns 1 }
              conditions := { s.ports[p].conditions with laneDown := true } }

/-- CODE_ERROR on an ALIVE lane: CODE_ERRORS is counted and LINK_ERROR raised, a frame in assembly is discarded and, on the
upstream lane, reported; the fault run grows by one, and the sixteenth of a run is the loss of lock (R123, R124, R130; THE
MODEL'S READING of the sixteenth, log 16). -/
def Obligations.CodeErrorIsCounted : Prop :=
  ∀ (l : Lane) (s : State) (run : Nat), (s.lane l).link = .alive run →
    (15 ≤ run → exec (.codeError l) s = exec (.lockLoss l .invalid) s)
    ∧ (run < 15 →
      ∃ t, exec (.codeError l) s = .next t ∧ State.OnlyReceiveSide s t ∧ State.OnlyLane l s t
        ∧ t.lane l = { link := .alive (run + 1), asm := none,
                       counters := { (s.lane l).counters with codeErrors := addSat (s.lane l).counters.codeErrors 1 } }
        ∧ t.conditions.linkError = true
        ∧ (if (s.lane l).asm.isSome then State.Reported true l s t else State.NoFault s t))

/-- FRAME_ABORTED, BAD_FRAME_SYMBOL and FRAME_CHECK_FAILED: the frame in assembly is discarded with its one count, LINK_ERROR
is raised but for an abort, the fault run becomes 0, a START begins a new frame, and a discard on the upstream lane is
reported (R126, R128, R130, R164). -/
def Obligations.DiscardedFrameIsCountedOnce : Prop :=
  ∀ (l : Lane) (s : State) (bytes : Frame), s.inFrame l = some bytes →
    (∃ t, exec (.frameAborted l) s = .next t ∧ State.OnlyReceiveSide s t ∧ State.OnlyLane l s t
      ∧ t.lane l = { link := .alive 0, asm := none,
                     counters := { (s.lane l).counters with
                       abortedFrames := addSat (s.lane l).counters.abortedFrames 1 } }
      ∧ t.conditions.linkError = s.conditions.linkError ∧ State.Reported true l s t)
    ∧ (∀ sym, (sym = .startSym ∨ sym = .idleSym ∨ (∃ b, sym = .data b) ∧ 256 ≤ bytes.length) →
      ∃ t, exec (.badFrameSymbol l sym) s = .next t ∧ State.OnlyReceiveSide s t ∧ State.OnlyLane l s t
        ∧ t.lane l = { link := .alive 0, asm := if sym = .startSym then some [] else none,
                       counters := { (s.lane l).counters with badFrames := addSat (s.lane l).counters.badFrames 1 } }
        ∧ t.conditions.linkError = true ∧ State.Reported true l s t)
    ∧ (∀ why, checkFrame l bytes = some why →
      ∃ t, exec (.frameCheckFailed l) s = .next t ∧ State.OnlyReceiveSide s t ∧ State.OnlyLane l s t
        ∧ t.lane l = { link := .alive 0, asm := none,
                       counters := if why = .crc
                         then { (s.lane l).counters with crcErrors := addSat (s.lane l).counters.crcErrors 1 }
                         else { (s.lane l).counters with badFrames := addSat (s.lane l).counters.badFrames 1 } }
        ∧ t.conditions.linkError = true ∧ State.Reported true l s t)

/-- SYMBOL_TIME where it completes no event of a frame: the IDLE run of a DOWN lane, the fault run of an ALIVE lane, the
START of a frame and its bytes (R123, R124, R126). Nothing but the lane changes. -/
def Obligations.SymbolTimeFeedsTheLane : Prop :=
  ∀ (l : Lane) (sym : Symbol) (s : State) (lane : RxLane),
    (∃ run, (s.lane l).link = .down run
        ∧ (sym ≠ .idleSym ∧ lane = { s.lane l with link := .down 0 }
           ∨ sym = .idleSym ∧ run < 3 ∧ lane = { s.lane l with link := .down (run + 1) }))
    ∨ (∃ run, (s.lane l).link = .alive run
        ∧ (sym = .noSignal ∧ run < 15 ∧ lane = { s.lane l with link := .alive (run + 1) }
           ∨ sym.valid = true ∧ (s.lane l).asm = none
              ∧ lane = { s.lane l with link := .alive 0, asm := if sym = .startSym then some [] else none }
           ∨ ∃ b bytes, sym = .data b ∧ (s.lane l).asm = some bytes ∧ bytes.length < 256
              ∧ lane = { s.lane l with link := .alive 0, asm := some (bytes ++ [b]) })) →
    ∃ t, exec (.symbolTime l sym) s = .next t
      ∧ t = { s with link := { s.link with lanes := t.link.lanes } } ∧ t.lane l = lane ∧ State.OnlyLane l s t

/-! ## Forwarding, replies and transmit lanes -/

/-- REPLY_FRAME: a returned reply joins the return queue as it arrived if that holds fewer than 4 frames, whatever the
upstream lane's state, and the arbiter chooses; else it is discarded, RETURNS_DROPPED counted and DROPPED raised. A frame
that fails a check on the thru lane is counted there and joins no queue (R134). -/
def Obligations.ReplyFrameJoinsTheReturnQueue : Prop :=
  (∀ (s : State) (f : Frame), s.goodFrame .thru .reply = some f →
    ∃ t, exec .replyFrame s = .next t ∧ State.FrameTaken .thru s t
      ∧ (s.link.returns.length < 4 →
          t = { s with link := { s.link with lanes := t.link.lanes, returns := s.link.returns ++ [f],
                                             upTx := t.link.upTx, lastServed := t.link.lastServed } }
          ∧ State.Arbitrated (s.lane .upstream).alive s t)
      ∧ (4 ≤ s.link.returns.length →
          t = { s with link := { s.link with lanes := t.link.lanes }
                       counters := { s.counters with returnsDropped := addSat s.counters.returnsDropped 1 }
                       conditions := { s.conditions with dropped := true } }))
  ∧ (∀ (s : State) (f : Frame), s.inFrame .thru = some f → checkFrame .thru f ≠ none →
      ∃ t, exec (.frameCheckFailed .thru) s = .next t ∧ t.link.returns = s.link.returns ∧ t.link.own = s.link.own
        ∧ t.link.forwarding = s.link.forwarding
        ∧ (t.lane .thru).counters =
            if checkFrame .thru f = some .crc
            then { (s.lane .thru).counters with crcErrors := addSat (s.lane .thru).counters.crcErrors 1 }
            else { (s.lane .thru).counters with badFrames := addSat (s.lane .thru).counters.badFrames 1 })

/-- THRU_TRANSMIT_END and UPSTREAM_TRANSMIT_END: the frame sent leaves its queue, and the next one begins: on the thru lane
the oldest of the forwarding queue (R133), on the upstream lane the one the arbiter chooses anew (R137). When an end time
counts as reached is THE MODEL'S READING (log 8). -/
def Obligations.TransmitEndFreesAPlace : Prop :=
  (∀ (s : State) (x : Transmission), s.link.thruTx.sending = some x → reached s.now x.ends = true →
    exec .thruTransmitEnd s =
      .next { s with link := { s.link with
        forwarding := s.link.forwarding.tail
        thruTx :=
          match s.link.forwarding.tail with
          | [] => { s.link.thruTx with sending := none }
          | f :: _ =>
            if (s.lane .thru).alive then ({ s.link.thruTx with sending := none } : Transmitter).begin s.now f
            else { s.link.thruTx with sending := none } } })
  ∧ ∀ (s : State) (x : Transmission), s.link.upTx.sending = some x → reached s.now x.ends = true →
    ∃ t, exec .upstreamTransmitEnd s = .next t
      ∧ t = { s with link := { s.link with own := t.link.own, returns := t.link.returns, upTx := t.link.upTx,
                                           lastServed := t.link.lastServed } }
      ∧ t.link.own = (if s.link.lastServed = .own then s.link.own.tail else s.link.own)
      ∧ t.link.returns = (if s.link.lastServed = .ret then s.link.returns.tail else s.link.returns)
      ∧ State.Arbitrated (s.lane .upstream).alive
          { s with link := { s.link with upTx := { s.link.upTx with sending := none } } } t

/-- What a transmit lane sends (R95, R125): a frame begun takes one µs for START, each byte and END, after the one ABORT of a
cut at the same instant; between frames the lane sends IDLE; and the bytes of a DEST frame, field by field (R96, R171, R172).
That the ABORT is a bit of the lane, and that two cuts of one instant send one ABORT, is THE MODEL'S (logs 10 and 19). -/
def Obligations.TransmitLaneSendsItsFrame : Prop :=
  (∀ (now : Time) (bytes : Frame) (tx : Transmitter), ∃ x, (tx.begin now bytes).sending = some x ∧ x.bytes = bytes
    ∧ x.first = now + (if tx.abort then 1 else 0)
    ∧ x.ends = now + BitVec.ofNat 32 (bytes.length + 2 + (if tx.abort then 1 else 0)))
  ∧ (∀ (x : Transmission) (i : Nat), x.bytes.length ≤ 256 → i ≤ x.bytes.length + 1 →
      ({ sending := some x, abort := false } : Transmitter).symbol (x.first + BitVec.ofNat 32 i) =
        if i = 0 then .startSym else if i = x.bytes.length + 1 then .endSym else .data (x.bytes.getD (i - 1) 0))
  ∧ (∀ (now : Time) (tx : Transmitter), tx.abort = true → tx.symbol now = .abortSym)
  ∧ (∀ now : Time, Transmitter.idle.symbol now = .idleSym)
  ∧ (∀ tx : Transmitter, tx.cut.sending = none ∧ tx.cut.abort = (tx.abort || tx.sending.isSome))
  ∧ (∀ (p : PortId) (rep : Bool) (d : DestFrame), (d.bytes p rep).length + 2 = 16 + 2 * d.values.length
      ∧ ∃ flags : Byte, flags.toNat < 16 ∧ flags.getLsbD 0 = d.lost ∧ flags.getLsbD 1 = d.sat
        ∧ flags.getLsbD 2 = d.lagWalk ∧ flags.getLsbD 3 = rep
        ∧ d.bytes p rep = withCrc
            ([4, BitVec.ofNat 8 p.val, 0, BitVec.ofNat 8 (8 + 2 * d.values.length), d.seq,
              match d.state with
              | .off => 0
              | .wait => 1
              | .run => 2
              | .hold => 3
              | .fade => 4
              | .settled => 5,
              flags, BitVec.ofNat 8 d.values.length, d.targetStep.extractLsb' 8 8, d.targetStep.extractLsb' 0 8,
              BitVec.ofNat 8 d.lag, 0]
              ++ d.values.flatMap fun v => [v.extractLsb' 8 8, v.extractLsb' 0 8]))

/-! ## Management executor -/

/-- REQUEST_FRAME that closes no batch: it opens one, joins an open one, or is drained. Nothing else changes; a broadcast
frame is forwarded too (R132, R141, R142, R143). -/
def Obligations.RequestFrameOpensOrExtendsABatch : Prop :=
  ∀ (s : State) (f : Frame) (addr : Addressing) (after : Executor),
    s.goodFrame .upstream .request = some f → s.addressing (frameAddress f) = some addr →
    ((s.executor = .idle ∧ frameChain f = true ∧ after = .opened (frameTag f) addr s.now [f])
      ∨ (∃ start frames, s.executor = .opened (frameTag f) addr start frames ∧ frames.length < 4 ∧ frameChain f = true
          ∧ after = .opened (frameTag f) addr start (frames ++ [f]))
      ∨ (s.executor = .draining (frameTag f) addr
          ∧ after = if frameChain f then .draining (frameTag f) addr else .idle)
      ∨ (∃ tag addr', s.executor = .draining tag addr' ∧ ¬ (tag = frameTag f ∧ addr' = addr) ∧ frameChain f = true
          ∧ after = .opened (frameTag f) addr s.now [f])) →
    ∃ t, exec .requestFrame s = .next t ∧ State.FrameTaken .upstream s t
      ∧ t = { s with executor := after,
                     link := { s.link with lanes := t.link.lanes, thruTx := t.link.thruTx,
                                           forwarding := t.link.forwarding } }
      ∧ State.RoutedBy addr f s t

/-- A request for another unit is forwarded and not executed; addresses 0..14 equal to the unit's reach this unit alone, 15
reaches every unit (R131, R132). -/
def Obligations.RequestForAnotherUnitIsForwarded : Prop :=
  (∀ (s : State) (a : Byte), a.toNat ≤ 15 →
    s.addressing a =
      if a.toNat = 15 then some .broadcast else if a.toNat = s.unitAddress.toNat then some .unit else none)
  ∧ ∀ (s : State) (f : Frame), s.goodFrame .upstream .request = some f → s.addressing (frameAddress f) = none →
    ∃ t, exec .requestFrame s = .next t ∧ State.FrameTaken .upstream s t ∧ State.Forwarded f s t
      ∧ t = { s with link := { s.link with lanes := t.link.lanes, thruTx := t.link.thruTx,
                                           forwarding := t.link.forwarding } }

/-- The faults of a batch (R142, R144, R146): a fifth frame, a frame of another batch with CHAIN set, and BATCH_TIMEOUT,
10000 µs after the batch start. The batch is discarded, counted, and answered where it was addressed to this unit. -/
def Obligations.BatchFaultIsCountedAndAnswered : Prop :=
  (∀ (s : State) (st : Status) (tag : BitVec 8) (addr : Addressing),
    State.Faulted (s.lane .upstream).alive st tag addr s (s.batchFault st tag addr)
    ∧ (s.batchFault st tag addr).conditions.linkError = s.conditions.linkError
    ∧ s.batchFault st tag addr =
        { s with counters := (s.batchFault st tag addr).counters
                 conditions := (s.batchFault st tag addr).conditions
                 link := { s.link with own := (s.batchFault st tag addr).link.own
                                       upTx := (s.batchFault st tag addr).link.upTx
                                       lastServed := (s.batchFault st tag addr).link.lastServed } })
  ∧ (∀ (s : State) (tag : BitVec 8) (addr : Addressing) (start : Time) (frames : List Frame),
    s.executor = .opened tag addr start frames → 10000 ≤ since s.now start →
    ∃ t, exec .batchTimeout s = .next t ∧ State.OnlyReceiveSide s t ∧ t.link.lanes = s.link.lanes
      ∧ t.executor = .draining tag addr ∧ t.conditions.linkError = s.conditions.linkError
      ∧ State.Faulted (s.lane .upstream).alive .batchTimeout tag addr s t)
  ∧ (∀ (s : State) (f : Frame) (addr addr' : Addressing) (tag : BitVec 8) (start : Time) (frames : List Frame),
    s.goodFrame .upstream .request = some f → s.addressing (frameAddress f) = some addr →
    s.executor = .opened tag addr' start frames →
    (tag = frameTag f ∧ addr' = addr → frames.length = 4 →
      ∃ t, exec .requestFrame s = .next t ∧ State.FrameTaken .upstream s t ∧ State.RoutedBy addr f s t
        ∧ t = { s with link := { t.link with returns := s.link.returns }, executor := t.executor,
                       counters := t.counters, conditions := t.conditions }
        ∧ t.executor = (if frameChain f then .draining tag addr else .idle)
        ∧ t.conditions.linkError = s.conditions.linkError ∧ State.Faulted true .batchTooLong tag addr s t)
    ∧ (¬ (tag = frameTag f ∧ addr' = addr) → frameChain f = true →
      ∃ t, exec .requestFrame s = .next t ∧ State.FrameTaken .upstream s t ∧ State.RoutedBy addr f s t
        ∧ t = { s with link := { t.link with returns := s.link.returns }, executor := t.executor,
                       counters := t.counters, conditions := t.conditions }
        ∧ t.executor = .opened (frameTag f) addr s.now [f]
        ∧ t.conditions.linkError = s.conditions.linkError ∧ State.Faulted true .batchBroken tag addr' s t))

/-- REQUEST_FRAME with CHAIN clear closes a batch at its event (R142, R143, R147): of this frame alone in IDLE, after a drain
of another batch and after breaking another batch, or of the open batch it matches. A batch of this unit without a place
for its reply is dropped; one with no request in it is answered by a reply of no results. -/
def Obligations.RequestFrameClosesABatch : Prop :=
  (∀ (s u : State) (f : Frame) (addr : Addressing) (held : List Frame),
    s.goodFrame .upstream .request = some f → s.addressing (frameAddress f) = some addr → frameChain f = false →
    ((s.executor = .idle ∧ held = [] ∧ u = s.endFrame .upstream)
      ∨ (∃ start, s.executor = .opened (frameTag f) addr start held ∧ held.length < 4
          ∧ u = { s.endFrame .upstream with executor := .idle })
      ∨ (∃ tag addr', s.executor = .draining tag addr' ∧ ¬ (tag = frameTag f ∧ addr' = addr) ∧ held = []
          ∧ u = { s.endFrame .upstream with executor := .idle })
      ∨ (∃ tag addr' start frames, s.executor = .opened tag addr' start frames ∧ ¬ (tag = frameTag f ∧ addr' = addr)
          ∧ held = []
          ∧ u = State.batchFault .batchBroken tag addr' { s.endFrame .upstream with executor := .idle })) →
    State.FrameTaken .upstream s (s.endFrame .upstream)
    ∧ exec .requestFrame s =
        .next (match addr with
               | .unit => u.closeBatch (frameTag f) .unit (held ++ [f])
               | .broadcast => (u.closeBatch (frameTag f) .broadcast (held ++ [f])).forward f))
  ∧ (∀ (s : State) (tag : BitVec 8) (frames : List Frame), 4 ≤ s.link.own.length →
      s.closeBatch tag .unit frames =
        { s with counters := { s.counters with requestsDropped := addSat s.counters.requestsDropped 1 }
                 conditions := { s.conditions with dropped := true } })
  ∧ (∀ (s : State) (f : Frame),
      s.goodFrame .upstream .request = some f → s.addressing (frameAddress f) = some .unit → s.executor = .idle →
      frameChain f = false → s.link.own.length < 4 → framePayload f = [] →
        ∃ t, exec .requestFrame s = .next t ∧ State.FrameTaken .upstream s t
          ∧ t = { s with link := { s.link with lanes := t.link.lanes, own := t.link.own, upTx := t.link.upTx,
                                               lastServed := t.link.lastServed } }
          ∧ State.Replied true (frameTag f) [] s t)

/-- What closing a batch comes to (R31, R147, R148). Its requests are taken in order, each against the state the ones before
it leave, up to the first refused. A batch with a refused request, or with a reply longer than 250 bytes, applies nothing,
counts REQUESTS_REFUSED and raises REFUSED; else the state that all its requests leave is taken, then the resets of runtime
records, then the reads in order. The reply of a batch of this unit, its results laid out by R172 and R174, joins the own
queue; a broadcast batch has none. -/
def Obligations.ClosedBatchIsAppliedWholeOrNotAtAll : Prop :=
  (∀ (s : State) (tag : BitVec 8) (addr : Addressing) (frames : List Frame) (results : List Result)
    (applied : Option State),
    (addr = .unit → s.link.own.length < 4) → s.runBatch frames = (results, applied) →
    (250 < (payloadOf results).length →
      s.closeBatch tag addr frames = s.countRefused.replyTo addr tag [{ code := 0, status := .replyTooLong, body := [] }])
    ∧ ((payloadOf results).length ≤ 250 → applied = none →
        s.closeBatch tag addr frames = s.countRefused.replyTo addr tag results
        ∧ results.length = (frames.flatMap fun f => decodePayload (framePayload f)).length
        ∧ (∀ r ∈ results, r.body = [])
        ∧ ∃ i, i < results.length ∧ ∀ k (h : k < results.length), results[k].status = .notApplied ↔ k ≠ i)
    ∧ (∀ s', (payloadOf results).length ≤ 250 → applied = some s' →
        s.closeBatch tag addr frames = s'.replyTo addr tag results
        ∧ results.length = (frames.flatMap fun f => decodePayload (framePayload f)).length))
  ∧ (∀ (s : State) (frames : List Frame) (reqs : List RawRequest) (outcome : Except (Nat × Status) (List Status × Work)),
      reqs = (frames.flatMap fun f => decodePayload (framePayload f)) →
      outcome = Work.takeAll (decide (2 ≤ frames.length)) (decide (reqs.length = 1)) reqs { state := s, resets := [] } →
      (∀ i st, outcome = .error (i, st) →
        (s.runBatch frames).2 = none ∧ (s.runBatch frames).1.length = reqs.length
        ∧ ∀ k (h : k < reqs.length), (s.runBatch frames).1[k]? =
            some { code := reqs[k].code, status := if k = i then st else .notApplied, body := [] })
      ∧ (∀ sts w, outcome = .ok (sts, w) →
        (s.runBatch frames).2 = some (State.answerAll reqs sts w.settle).2
        ∧ (s.runBatch frames).1 = (State.answerAll reqs sts w.settle).1 ∧ sts.length = reqs.length))
  ∧ (∀ (multi alone : Bool) (w : Work),
      Work.takeAll multi alone [] w = .ok ([], w)
      ∧ ∀ (r : RawRequest) (rs : List RawRequest),
        (∀ st, w.take multi alone r = .error st → Work.takeAll multi alone (r :: rs) w = .error (0, st))
        ∧ ∀ st w', w.take multi alone r = .ok (st, w') →
          (∀ i e, Work.takeAll multi alone rs w' = .error (i, e) →
            Work.takeAll multi alone (r :: rs) w = .error (i + 1, e))
          ∧ ∀ sts w'', Work.takeAll multi alone rs w' = .ok (sts, w'') →
            Work.takeAll multi alone (r :: rs) w = .ok (st :: sts, w''))
  ∧ (∀ (multi alone : Bool) (w : Work) (r : RawRequest),
      (r.decode = none → w.take multi alone r = .error .badRequest)
      ∧ ∀ k b, r.decode = some (k, b) →
        (k.isRead = true → multi = true → w.take multi alone r = .error .readInBatch)
        ∧ (k = .resetUnit → alone = false → w.take multi alone r = .error .resetNotAlone)
        ∧ ((k.isRead = true → multi = false) → (k = .resetUnit → alone = true) →
            w.take multi alone r = w.request k b)
        ∧ ∀ st w', k.isRead = true → w.request k b = .ok (st, w') → w' = w)
  ∧ (∀ (r : RawRequest) (k : ReqKind) (b : List Byte),
      r.decode = some (k, b) ↔ ReqKind.ofCode r.code = some k ∧ r.body = some b ∧ k.lengthOk b = true)
  ∧ (∀ w : Work,
      w.settle = { w.state with routes := { w.state.routes with records := w.settle.routes.records } }
      ∧ ∀ i : EntryId, w.settle.routes.records[i] =
          if i ∈ w.resets then { residue := 0, last := w.state.routes.entries[i].neutral, carry := none }
          else w.state.routes.records[i])
  ∧ (∀ s : State, State.answerAll [] [] s = ([], s)
      ∧ ∀ (r : RawRequest) (rs : List RawRequest) (st : Status) (sts : List Status) (k : ReqKind) (b : List Byte),
        r.decode = some (k, b) →
        State.answerAll (r :: rs) (st :: sts) s =
          ({ code := r.code, status := st, body := (s.answer k b).1 } :: (State.answerAll rs sts (s.answer k b).2).1,
           (State.answerAll rs sts (s.answer k b).2).2))
  ∧ (∀ (s : State) (tag : BitVec 8) (results : List Result),
      s.replyTo .broadcast tag results = s
      ∧ State.Replied (s.lane .upstream).alive tag (payloadOf results) s (s.replyTo .unit tag results)
      ∧ s.replyTo .unit tag results =
          { s with link := { s.link with own := (s.replyTo .unit tag results).link.own
                                         upTx := (s.replyTo .unit tag results).link.upTx
                                         lastServed := (s.replyTo .unit tag results).link.lastServed } })
  ∧ (∀ results : List Result, payloadOf results =
      results.flatMap fun r => [r.code, r.status.code, BitVec.ofNat 8 r.body.length] ++ r.body)
  ∧ (∀ (u : BitVec 4) (tag : BitVec 8) (payload : List Byte), replyFrame u tag payload =
      withCrc ([3, u.setWidth 8, tag, BitVec.ofNat 8 payload.length] ++ payload))

/-- The read requests change nothing but by a Read Counters with clear, which makes the counters of its group 0 and keeps
every other counter, every condition and all else; its group and clear choice are checked in the order of R160; and the
bodies the reads return have the lengths of R173 (R150 to R160). -/
def Obligations.ReadsLeaveTheStateAndKeepTheirLengths : Prop :=
  ∀ (s : State),
    (∀ k b, k.isRead = true → k ≠ .readCounters → (s.answer k b).2 = s)
    ∧ (∀ b g, checkCounters b = .ok (g, true) → (s.answer .readCounters b).2 = s.clearGroup g)
    ∧ (∀ b g, checkCounters b = .ok (g, false) → (s.answer .readCounters b).2 = s)
    ∧ (∀ b st, checkCounters b = .error st → (s.answer .readCounters b).2 = s)
    ∧ (∀ b g clear, checkCounters b = .ok (g, clear) →
        (s.answer .readCounters b).1 = (s.groupCounters g).flatMap fun c => [c.extractLsb' 8 8, c.extractLsb' 0 8])
    ∧ (∀ b : List Byte,
        (2 < (b.getD 0 0).toNat ∨ 1 < (b.getD 2 0).toNat → checkCounters b = .error .badValue)
        ∧ ((b.getD 2 0).toNat ≤ 1 →
            ((b.getD 0 0).toNat = 0 → checkCounters b = .ok (.link, decide ((b.getD 2 0).toNat = 1)))
            ∧ ((b.getD 0 0).toNat = 1 → checkCounters b = .ok (.part, decide ((b.getD 2 0).toNat = 1)))
            ∧ ((b.getD 0 0).toNat = 2 →
                (5 < (b.getD 1 0).toNat → checkCounters b = .error .badIndex)
                ∧ ∀ p : PortId, (b.getD 1 0).toNat = p.val →
                    checkCounters b = .ok (.port p, decide ((b.getD 2 0).toNat = 1)))))
    ∧ (s.clearGroup .link = { s with link := { s.link with lanes := (s.clearGroup .link).link.lanes } }
        ∧ ∀ l, (s.clearGroup .link).lane l =
          { s.lane l with
            counters := { crcErrors := 0, codeErrors := 0, badFrames := 0, abortedFrames := 0, lockLosses := 0 } })
    ∧ s.clearGroup .part =
        { s with counters := { cueAccepted := 0, stepStale := 0, gapSteps := 0, silentEntries := 0, batchFaults := 0,
                               requestsRefused := 0, requestsDropped := 0, returnsDropped := 0 } }
    ∧ (∀ p : PortId, s.clearGroup (.port p) = { s with ports := (s.clearGroup (.port p)).ports }
        ∧ (∀ q : PortId, q ≠ p → (s.clearGroup (.port p)).ports[q] = s.ports[q])
        ∧ (s.clearGroup (.port p)).ports[p] =
          { s.ports[p] with
            counters := { emitted := 0, skipped := 0, repeated := 0, paceOverruns := 0, timerOverruns := 0,
                          historyLost := 0, satCompositions := 0, residueSats := 0, laneDowns := 0 } })
    ∧ (∀ b, checkReadRoutes b = .ok .done → (s.answer .readRoutes b).1.length = 25 * (b.getD 1 0).toNat)
    ∧ (∀ b, (b.getD 0 0).toNat < 8 → (s.answer .readCurve b).1.length = 18)
    ∧ (∀ b, (b.getD 0 0).toNat < 6 → (s.answer .readPort b).1.length = 34)
    ∧ (∀ b, (s.answer .readSource b).1.length = 17)
    ∧ (∀ b r, s.intake.ring[(b.getD 0 0).toNat]? = some r → (s.answer .readHistory b).1.length = 11 + 2 * r.values.length)
    ∧ (∀ b, (s.answer .readConditions b).1.length = 7)
    ∧ (∀ b clear, checkCounters b = .ok (.link, clear) → (s.answer .readCounters b).1.length = 80)
    ∧ (∀ b clear, checkCounters b = .ok (.part, clear) → (s.answer .readCounters b).1.length = 16)
    ∧ (∀ b p clear, checkCounters b = .ok (.port p, clear) → (s.answer .readCounters b).1.length = 18)

/-- Configure Port. Enabling a port puts it in WAIT with its runtime cleared and its timer running in the timed modes;
disabling it puts it in OFF, cuts its frame, and keeps the rest; writing a port that stays OFF changes its configuration
alone (R69, R85, R86). The request is checked in the order of R153, WINDOW_OVERLAP last, its values are adjusted (R82, R91,
R153, R176), and the records of the entries that come into an enabled window are reset (R31, R36). -/
def Obligations.ConfigurePortEnablesAndDisables : Prop :=
  (∀ (now : Time) (c : PortConfig) (p : Port),
    (p.cfg.enable = false → c.enable = true →
      p.configure now c =
        { p with cfg := c, state := .wait, lag := 0, consumed := none, seq := 0, lastFrame := none, mark := none,
                 tx := { p.tx with sending := none },
                 timer := if c.pacing = .peer then none else some (now + BitVec.ofNat 32 c.interval) })
    ∧ (p.cfg.enable = true → c.enable = false →
      p.configure now c = { p with cfg := c, state := .off, tx := p.tx.cut, mark := none, timer := none })
    ∧ (p.cfg.enable = false → c.enable = false → p.configure now c = { p with cfg := c })
    ∧ (p.cfg.enable = true → c.enable = true →
      p.configure now c =
        { p with
          cfg := c
          mark := if p.cfg.pacing = .peer ∧ c.pacing ≠ .peer then none else p.mark
          timer := if c.pacing = .peer then (if p.cfg.pacing = .peer then p.timer else none)
                   else if p.cfg.pacing = .peer then some (now + BitVec.ofNat 32 c.interval) else p.timer }))
  ∧ (∀ b : List Byte,
      (decodeConfig b = none ↔
        1 < (b.getD 1 0).toNat ∨ 2 < (b.getD 2 0).toNat ∨ 2 < (b.getD 5 0).toNat ∨ 1 < (b.getD 8 0).toNat
        ∨ 1 < (b.getD 10 0).toNat ∨ 7 < (b.getD 6 0).toNat)
      ∧ ∀ c adj, decodeConfig b = some (c, adj) →
        (c.enable = true ↔ (b.getD 1 0).toNat = 1) ∧ c.role.code = b.getD 2 0 ∧ c.first = b.getD 3 0
        ∧ c.count = b.getD 4 0 ∧ c.pacing.code = b.getD 5 0 ∧ c.k.toNat = (b.getD 6 0).toNat
        ∧ c.n.toNat = max (b.getD 7 0).toNat (16 / 2 ^ c.k.toNat - 1) ∧ (c.mirror = true ↔ (b.getD 8 0).toNat = 1)
        ∧ (c.scale.toNat : Int) = clampInt 1 16 (b.getD 9 0).toNat ∧ c.lagMode.code = b.getD 10 0
        ∧ c.manualLag.toNat = min 48 (b.getD 11 0).toNat ∧ c.trim = be16 b 12 ∧ c.holdTime = b.getD 14 0
        ∧ c.fadeStep.toNat = max 1 ((be16 b 15).toNat % 32768)
        ∧ (adj = true ↔ c.n ≠ b.getD 7 0 ∨ c.scale ≠ b.getD 9 0 ∨ c.manualLag ≠ b.getD 11 0
            ∨ (be16 b 15).toNat % 32768 = 0))
  ∧ (∀ (s : State) (b : List Byte),
      (5 < (b.getD 0 0).toNat → s.checkPort b = .error .badIndex)
      ∧ ∀ p : PortId, (b.getD 0 0).toNat = p.val →
        (decodeConfig b = none → s.checkPort b = .error .badValue)
        ∧ ∀ c adj, decodeConfig b = some (c, adj) →
          (24 < c.count.toNat → s.checkPort b = .error .windowTooLong)
          ∧ (c.count.toNat ≤ 24 → 95 < c.first.toNat ∨ 96 < c.first.toNat + c.count.toNat →
              s.checkPort b = .error .badIndex)
          ∧ (c.count.toNat ≤ 24 → c.first.toNat ≤ 95 → c.first.toNat + c.count.toNat ≤ 96 →
              ((c.enable = true ∧ ∃ q : PortId, q ≠ p ∧ s.ports[q].cfg.enable = true
                  ∧ ∃ i, i ∈ c.window ∧ i ∈ s.ports[q].cfg.window) →
                s.checkPort b = .error .windowOverlap)
              ∧ (¬ (c.enable = true ∧ ∃ q : PortId, q ≠ p ∧ s.ports[q].cfg.enable = true
                  ∧ ∃ i, i ∈ c.window ∧ i ∈ s.ports[q].cfg.window) →
                s.checkPort b = .ok (p, c, adj))))
  ∧ (∀ (w : Work) (b : List Byte),
      (∀ st, w.state.checkPort b = .error st → w.request .configurePort b = .error st)
      ∧ ∀ p c adj, w.state.checkPort b = .ok (p, c, adj) →
        w.request .configurePort b =
          .ok (if adj then .adjusted else .done,
               { state := w.state.updPort p (Port.configure w.state.now c)
                 resets := w.state.ports[p].cfg.entering c ++ w.resets }))
  ∧ (∀ (old new : PortConfig) (i : EntryId),
      i ∈ old.entering new ↔
        new.enable = true ∧ i ∈ new.window ∧ ¬ (old.enable = true ∧ i ∈ old.window))
  ∧ (∀ (c : PortConfig) (i : EntryId),
      i ∈ c.window ↔ c.first.toNat ≤ i.val ∧ i.val < c.first.toNat + c.count.toNat)

/-- The bytes of a valid route entry, and of a valid port configuration, are read back as they were sent, without an
adjustment (R153, R175, R176). An entry is refused or adjusted as R29 says; Load Routes writes its entries, all or none, and
marks the records to be reset (R31, R149); Load Curve writes the nine points of its curve (R39, R151). -/
def Obligations.EntryAndPortBytesReadBack : Prop :=
  (∀ e : RouteEntry, e.Valid → checkEntry e.bytes = .ok (e, false) ∧ e.bytes.length = 16)
  ∧ (∀ (p : PortId) (c : PortConfig), c.Valid → decodeConfig (c.bytes p) = some (c, false) ∧ (c.bytes p).length = 17)
  ∧ (∀ (b : List Byte) (refused : Prop),
      (refused ↔
        (47 < (b.getD 0 0).toNat ∧ (b.getD 0 0).toNat ≠ 255) ∨ 2 < (b.getD 3 0).toNat
        ∨ (b.getD 4 0).toNat ∉ [1, 2, 4, 8] ∨ (8 ≤ (b.getD 7 0).toNat % 16 ∧ (b.getD 7 0).toNat % 16 ≤ 14)
        ∨ 32768 ≤ (be16 b 14).toNat) →
      (refused → checkEntry b = .error .badValue)
      ∧ (¬ refused → ¬ ((be16 b 8).toInt ≤ (be16 b 12).toInt ∧ (be16 b 12).toInt ≤ (be16 b 10).toInt) →
          checkEntry b = .error .badLimits)
      ∧ (¬ refused → (be16 b 8).toInt ≤ (be16 b 12).toInt → (be16 b 12).toInt ≤ (be16 b 10).toInt →
          ∃ e : RouteEntry, e.Valid
            ∧ checkEntry b = .ok (e, decide ((b.getD 3 0).toNat ≠ 0 ∧ (b.getD 4 0).toNat ≠ 1))
            ∧ e.bytes = [b.getD 0 0, b.getD 1 0, b.getD 2 0, b.getD 3 0,
                         if (b.getD 3 0).toNat = 0 then b.getD 4 0 else 1, b.getD 5 0 &&& 3, b.getD 6 0,
                         b.getD 7 0 &&& 15, b.getD 8 0, b.getD 9 0, b.getD 10 0, b.getD 11 0, b.getD 12 0, b.getD 13 0,
                         b.getD 14 0, b.getD 15 0]))
  ∧ (∀ (w : Work) (b : List Byte) (first count : Nat), first = (b.getD 0 0).toNat → count = (b.getD 1 0).toNat →
      (count = 0 ∨ 12 < count → w.request .loadRoutes b = .error .badValue)
      ∧ (1 ≤ count → count ≤ 12 → 95 < first ∨ 96 < first + count → w.request .loadRoutes b = .error .badIndex)
      ∧ (1 ≤ count → count ≤ 12 → first + count ≤ 96 →
          (∀ j st, j < count → checkEntry (b.drop (2 + 16 * j)) = .error st →
            (∀ k, k < j → ∃ x, checkEntry (b.drop (2 + 16 * k)) = .ok x) → w.request .loadRoutes b = .error st)
          ∧ ∀ es : Nat → RouteEntry × Bool, (∀ j, j < count → checkEntry (b.drop (2 + 16 * j)) = .ok (es j)) →
            ∃ w' : Work,
              w.request .loadRoutes b =
                .ok (if (List.range count).any (fun j => (es j).2) then .adjusted else .done, w')
              ∧ w'.state = { w.state with routes := { w.state.routes with entries := w'.state.routes.entries } }
              ∧ ∀ i : EntryId,
                w'.state.routes.entries[i] =
                  (if first ≤ i.val ∧ i.val < first + count then (es (i.val - first)).1 else w.state.routes.entries[i])
                ∧ (i ∈ w'.resets ↔ i ∈ w.resets
                    ∨ w'.state.routes.entries[i].source ≠ w.state.routes.entries[i].source
                    ∨ w'.state.routes.entries[i].constant ≠ w.state.routes.entries[i].constant
                    ∨ w'.state.routes.entries[i].kind ≠ w.state.routes.entries[i].kind)))
  ∧ (∀ (w : Work) (b : List Byte),
      (7 < (b.getD 0 0).toNat → w.request .loadCurve b = .error .badIndex)
      ∧ ∀ k : Fin 8, (b.getD 0 0).toNat = k.val →
        ∃ w' : Work, w.request .loadCurve b = .ok (.done, w') ∧ w'.resets = w.resets
          ∧ w'.state = { w.state with routes := { w.state.routes with curves := w'.state.routes.curves } }
          ∧ (∀ m : Fin 8, m ≠ k → w'.state.routes.curves[m] = w.state.routes.curves[m])
          ∧ ∀ j : Fin 9, w'.state.routes.curves[k].points[j] = be16 b (1 + 2 * j.val))

/-- The three scopes of Reset Unit, block by block (R21, R41, R105, R106, R140, R161, R170). -/
def Obligations.ResetUnitScopes : Prop :=
  ∀ s : State,
    (s.resetFull = { State.reset with
        pending := s.pending, choices := s.choices, now := s.now, unitAddress := s.unitAddress
        link := s.resetFull.link, ports := s.resetFull.ports }
      ∧ (∀ l, s.resetFull.lane l = { s.lane l with counters := {} })
      ∧ s.resetFull.link.forwarding = [] ∧ s.resetFull.link.own = [] ∧ s.resetFull.link.returns = []
      ∧ s.resetFull.link.lastServed = .ret
      ∧ s.resetFull.link.upTx = s.link.upTx.cut ∧ s.resetFull.link.thruTx = s.link.thruTx.cut
      ∧ ∀ p : PortId, s.resetFull.ports[p] = { Port.powerOn with tx := s.ports[p].tx.cut })
    ∧ (s.resetRuntime = { s with executor := .idle, intake := s.resetRuntime.intake, ports := s.resetRuntime.ports,
                                 routes := { s.routes with records := s.resetRuntime.routes.records } }
      ∧ s.resetRuntime.intake = { ring := [], nextIndex := 1, ni := 0, newestStep := 0, source := .absent,
                                  e16 := BitVec.ofNat 32 (16 * s.intake.nominal.toNat), nominal := s.intake.nominal,
                                  timeout := s.intake.timeout }
      ∧ (∀ i : EntryId, s.resetRuntime.routes.records[i] =
          { residue := 0, last := s.routes.entries[i].neutral, carry := none })
      ∧ ∀ p : PortId, s.resetRuntime.ports[p] =
          if s.ports[p].cfg.enable then
            { s.ports[p] with state := .wait, lag := 0, consumed := none, mark := none, tx := s.ports[p].tx.cut,
                              lastFrame := none }
          else { s.ports[p] with consumed := none })
    ∧ (s.resetCounters = { s with executor := .idle, counters := {}, conditions := {},
                                  ports := s.resetCounters.ports,
                                  link := { s.link with lanes := s.resetCounters.link.lanes } }
      ∧ (∀ l, s.resetCounters.lane l = { s.lane l with counters := {} })
      ∧ ∀ p : PortId, s.resetCounters.ports[p] = { s.ports[p] with counters := {}, conditions := {} })
    ∧ (∀ (w : Work) (b : Byte), w.resetUnit [b] =
        if b = 0 then .ok (.done, { w with state := w.state.resetFull })
        else if b = 1 then .ok (.done, { w with state := w.state.resetRuntime })
        else if b = 2 then .ok (.done, { w with state := w.state.resetCounters })
        else .error .badValue)

/-! ## The stages of a composition -/

/-- The sign stage (R58), and that an entry whose stages run sets the SAT of its composition by them. -/
def Obligations.SignStageNegates : Prop :=
  (∀ (e : RouteEntry) (mirror : Bool), e.negates mirror = true ↔ e.invert ≠ (e.mirrorSensitive && mirror))
  ∧ (∀ (s : State) (p : PortId) (tr : Bool), (s.scene p tr).mirror = s.ports[p].cfg.mirror)
  ∧ (∀ x : Int, -32767 ≤ x → x ≤ 32767 → signStage true x = (-x, false))
  ∧ signStage true (-32768) = (32767, true)
  ∧ (∀ x : Int, signStage false x = (x, false))
  ∧ (∀ (neg : Bool) (x : Int), -32768 ≤ x → x ≤ 32767 → -32768 ≤ (signStage neg x).1 ∧ (signStage neg x).1 ≤ 32767)
  ∧ (∀ (e : RouteEntry) (c : Option Curve) (mirror : Bool) (scale : Nat), e.negates mirror = true →
      (e.shape c mirror scale (-32768)).2 = true)
  ∧ (∀ (e : RouteEntry) (sc : Scene) (r : Runtime) (v : Int), e.StagesRunOn sc r v →
      (e.compose sc r).sat = (e.shape (e.theCurve sc.curves) sc.mirror sc.scale v).2)
  ∧ (∀ (e : RouteEntry) (sc : Scene) (r : Runtime), (∀ v, ¬ e.StagesRunOn sc r v) → (e.compose sc r).sat = false)
  ∧ (∀ (s : State) (p : PortId) (tr : Bool), (s.frame p tr).sat = true ↔ ∃ o ∈ s.outs p tr, o.2.sat = true)
  ∧ (∀ (s : State) (p : PortId) (tr : Bool) (i : EntryId), i ∈ s.ports[p].cfg.window →
      s.routes.entries[i].StagesRunOn (s.scene p tr) s.routes.records[i] (-32768) →
      s.routes.entries[i].negates s.ports[p].cfg.mirror = true → (s.frame p tr).sat = true)

/-- The gain stage (R59), and that an entry whose stages run sets the SAT of its composition by it. -/
def Obligations.GainStageDividesBy256 : Prop :=
  (∀ (g s : Nat) (x : Int), g ≤ 255 → 1 ≤ s → s ≤ 16 → -32768 ≤ x → x ≤ 32767 →
    -133693440 ≤ x * g * s ∧ x * g * s ≤ 133693440
    ∧ -522240 ≤ (x * g * s).tdiv 256 ∧ (x * g * s).tdiv 256 ≤ 522240
    ∧ (32767 < (x * g * s).tdiv 256 → gainStage g s x = (32767, true))
    ∧ ((x * g * s).tdiv 256 < -32768 → gainStage g s x = (-32768, true))
    ∧ (-32768 ≤ (x * g * s).tdiv 256 → (x * g * s).tdiv 256 ≤ 32767 → gainStage g s x = ((x * g * s).tdiv 256, false))
    ∧ (g * s = 256 → gainStage g s x = (x, false)))
  ∧ (∀ (s : Nat) (x : Int), gainStage 0 s x = (0, false))
  ∧ (∀ x : Int, -255 ≤ x → x ≤ 255 → gainStage 1 1 x = (0, false))
  ∧ gainStage 1 1 256 = (1, false) ∧ gainStage 1 1 (-256) = (-1, false)
  ∧ (∀ (e : RouteEntry) (c : Option Curve) (mirror : Bool) (scale : Nat) (v : Int),
      (gainStage e.gain.toNat scale (signStage (e.negates mirror) v).1).2 = true → (e.shape c mirror scale v).2 = true)
  ∧ (∀ (s : State) (p : PortId) (tr : Bool), (s.scene p tr).scale = s.ports[p].cfg.scale.toNat)
  ∧ (∀ (e : RouteEntry) (sc : Scene) (r : Runtime) (v : Int), e.StagesRunOn sc r v →
      (e.compose sc r).sat = (e.shape (e.theCurve sc.curves) sc.mirror sc.scale v).2)
  ∧ (∀ (s : State) (p : PortId) (tr : Bool) (i : EntryId) (e : RouteEntry) (v : Int), i ∈ s.ports[p].cfg.window →
      e = s.routes.entries[i] → e.StagesRunOn (s.scene p tr) s.routes.records[i] v →
      (gainStage e.gain.toNat s.ports[p].cfg.scale.toNat (signStage (e.negates s.ports[p].cfg.mirror) v).1).2 = true →
      (s.frame p tr).sat = true)

/-- The curve stage (R60). -/
def Obligations.CurveStageInterpolates : Prop :=
  (∀ x : Int, curveStage none x = x)
  ∧ (∀ (s : State) (p : PortId) (tr : Bool), (s.scene p tr).curves = s.routes.curves)
  ∧ (∀ (e : RouteEntry) (curves : Vector Curve 8), e.curve = none → e.theCurve curves = none)
  ∧ (∀ (e : RouteEntry) (curves : Vector Curve 8) (i : Fin 8), e.curve = some i → e.theCurve curves = some curves[i])
  ∧ (∀ (c : Curve) (x : Int) (u k f : Nat), -32768 ≤ x → x ≤ 32767 → (u : Int) = x + 32768 → k = u / 8192 →
      f = u - 8192 * k →
      u ≤ 65535 ∧ k ≤ 7 ∧ f ≤ 8191
      ∧ curveStage (some c) x = c.y k + ((c.y (k + 1) - c.y k) * f).tdiv 8192
      ∧ -536797185 ≤ (c.y (k + 1) - c.y k) * f ∧ (c.y (k + 1) - c.y k) * f ≤ 536797185
      ∧ min (c.y k) (c.y (k + 1)) ≤ curveStage (some c) x ∧ curveStage (some c) x ≤ max (c.y k) (c.y (k + 1))
      ∧ -32768 ≤ curveStage (some c) x ∧ curveStage (some c) x ≤ 32767
      ∧ (f = 0 → curveStage (some c) x = c.y k)
      ∧ (8192 * (curveStage (some c) x - c.y k)).natAbs ≤ ((c.y (k + 1) - c.y k) * f).natAbs)
  ∧ (∀ (c : Curve) (k : Fin 9), c.y k.val = (c.points[k]).toInt)
  ∧ (∀ (e : RouteEntry) (c c' : Option Curve) (mirror : Bool) (scale : Nat) (v : Int),
      (e.shape c mirror scale v).2 = (e.shape c' mirror scale v).2)
  ∧ (∀ x : Int, 24577 ≤ x → x ≤ 32767 → curveStage (some Curve.powerOn) x = x - 1)

/-- The clamp stage (R61): its result is the output and the last output of a DELTA or PEAK entry whose stages run, which is
not slewed, and the target of a LEVEL entry's slew; it sets no flag. -/
def Obligations.ClampStageGivesTheOutput : Prop :=
  (∀ sc : Scene, sc.emits = true ↔ sc.transmitted = true ∧ (sc.mode = .run ∨ sc.mode = .hold))
  ∧ (∀ (e : RouteEntry) (x : Int), e.lo.toInt ≤ e.hi.toInt →
    (e.lo.toInt ≤ x → x ≤ e.hi.toInt → e.clamp x = x) ∧ (x < e.lo.toInt → e.clamp x = e.lo.toInt)
    ∧ (e.hi.toInt < x → e.clamp x = e.hi.toInt))
  ∧ (∀ (e : RouteEntry) (c : Option Curve) (mirror : Bool) (scale : Nat) (v : Int),
      (e.shape c mirror scale v).1
        = e.clamp (curveStage c (gainStage e.gain.toNat scale (signStage (e.negates mirror) v).1).1)
      ∧ (e.shape c mirror scale v).2
        = ((signStage (e.negates mirror) v).2
            || (gainStage e.gain.toNat scale (signStage (e.negates mirror) v).1).2))
  ∧ (∀ (e : RouteEntry) (sc : Scene) (r : Runtime), sc.emits = true → e.lo.toInt ≤ e.hi.toInt →
      (e.kind = .delta →
        ((e.compose sc r).value).toInt =
          (e.shape (e.theCurve sc.curves) sc.mirror sc.scale
            (clampInt (-32768) 32767 (e.total r sc.span))).1
        ∧ (e.compose sc r).record.last = (e.compose sc r).value)
      ∧ (e.kind = .peak →
        ((e.compose sc r).value).toInt =
          (e.shape (e.theCurve sc.curves) sc.mirror sc.scale ((peakOf (e.candidates r sc.span)).getD 0)).1
        ∧ (e.compose sc r).record.last = (e.compose sc r).value))
  ∧ (∀ (e : RouteEntry) (sc : Scene) (r : Runtime), sc.mode = .run → e.lo.toInt ≤ e.hi.toInt → e.kind = .level →
      ∀ v, e.levelSource sc.ring sc.targetAge = some v →
        ((e.compose sc r).value).toInt =
          e.slewStage (e.clamp r.last.toInt) (e.shape (e.theCurve sc.curves) sc.mirror sc.scale v).1)

/-- The slew stage (R62): a LEVEL output moves from the clamped last output toward its target by at most the slew, stays
within the limits, and becomes the last output. Without a frame that carries the slot, the target is the neutral. -/
def Obligations.SlewStageLimitsTheStep : Prop :=
  (∀ (e : RouteEntry) (last target : Int), e.slew = 0 → e.slewStage last target = target)
  ∧ (∀ (e : RouteEntry) (last target : Int), e.slew ≠ 0 →
      e.slewStage last target =
        e.clamp (last + clampInt (-(e.slew.toNat : Int)) e.slew.toNat (target - last)))
  ∧ (∀ (e : RouteEntry) (last target : Int), e.slew ≠ 0 → e.lo.toInt ≤ last → last ≤ e.hi.toInt →
      e.lo.toInt ≤ target → target ≤ e.hi.toInt →
      -65535 ≤ target - last ∧ target - last ≤ 65535
      ∧ e.slewStage last target = last + clampInt (-(e.slew.toNat : Int)) e.slew.toNat (target - last)
      ∧ min last target ≤ e.slewStage last target ∧ e.slewStage last target ≤ max last target
      ∧ (e.slewStage last target - last).natAbs ≤ e.slew.toNat)
  ∧ (∀ (e : RouteEntry) (sc : Scene) (r : Runtime), e.Valid → e.kind = .level → sc.mode = .run →
      e.lo.toInt ≤ (e.compose sc r).value.toInt ∧ (e.compose sc r).value.toInt ≤ e.hi.toInt
      ∧ (e.compose sc r).record = { r with last := (e.compose sc r).value }
      ∧ (e.levelSource sc.ring sc.targetAge = none →
          (e.compose sc r).value.toInt = e.slewStage (e.clamp r.last.toInt) e.neutral.toInt))

/-- The source value of a LEVEL entry (R38, R50, R51): the average of the W frames up to the target that carry the slot, or
the newest older frame that carries it, or none. -/
def Obligations.LevelSourceAveragesItsFrames : Prop :=
  (∀ (e : RouteEntry) (ring : List Record) (age : Nat) (slot : Fin 48) (near : List Int),
    e.source = .slot slot →
    near = (List.range e.window.frames).filterMap (fun j =>
      (ring[age + j]?).bind fun r => (r.values[slot.val]?).map BitVec.toInt) →
    (near ≠ [] → e.levelSource ring age = some (near.sum.tdiv near.length))
    ∧ (near = [] →
      (∀ k r v, age + e.window.frames ≤ k → ring[k]? = some r → r.values[slot.val]? = some v →
        (∀ j q, age + e.window.frames ≤ j → j < k → ring[j]? = some q → q.values[slot.val]? = none) →
        e.levelSource ring age = some v.toInt)
      ∧ ((∀ k r, age + e.window.frames ≤ k → ring[k]? = some r → r.values[slot.val]? = none) →
        e.levelSource ring age = none)))
  ∧ (∀ (e : RouteEntry) (ring : List Record) (age : Nat), e.source = .constant → age < ring.length →
      e.levelSource ring age = some e.constant.toInt)

/-- A DELTA entry (R49, R52 to R55, R115): the total is the residue plus the slot over the span; a composition that runs the
stages emits its 16-bit part and keeps the rest, any other banks it whole; what is emitted plus what is kept is the total,
unless the residue was limited to ±2^30. -/
def Obligations.DeltaConservesItsTotal : Prop :=
  (∀ sc : Scene, sc.emits = true ↔ sc.transmitted = true ∧ (sc.mode = .run ∨ sc.mode = .hold))
  ∧ ∀ (e : RouteEntry) (sc : Scene) (r : Runtime) (total pre : Int), e.kind = .delta →
    total = r.residue.toInt + (sc.span.filterMap e.read).sum →
    pre = (if sc.emits then clampInt (-32768) 32767 total else 0) →
    (e.compose sc r).record.residue.toInt = clampInt (-1073741824) 1073741824 (total - pre)
    ∧ ((e.compose sc r).limited = true ↔ (total - pre < -1073741824 ∨ 1073741824 < total - pre))
    ∧ ((e.compose sc r).limited = false → pre + (e.compose sc r).record.residue.toInt = total)
    ∧ (e.compose sc r).record.carry = r.carry
    ∧ (sc.emits = false →
        (e.compose sc r).value = 0 ∧ (e.compose sc r).sat = false
        ∧ (e.compose sc r).record.last = toCue (e.clamp r.last.toInt))

/-- A PEAK entry (R56, R57, R115): the winner is the earliest candidate of the greatest absolute value, the carry first; a
composition that runs the stages shapes it and clears the carry, any other keeps it as the carry. -/
def Obligations.PeakKeepsTheGreatestCandidate : Prop :=
  (∀ sc : Scene, sc.emits = true ↔ sc.transmitted = true ∧ (sc.mode = .run ∨ sc.mode = .hold))
  ∧ (peakOf [] = none)
  ∧ (∀ (xs : List Int) (v : Int), peakOf xs = some v →
      ∃ i : Nat, xs[i]? = some v
        ∧ (∀ (j : Nat) (x : Int), j < i → xs[j]? = some x → x.natAbs < v.natAbs) ∧ ∀ x ∈ xs, x.natAbs ≤ v.natAbs)
  ∧ (∀ xs : List Int, xs ≠ [] → (peakOf xs).isSome = true)
  ∧ (∀ (e : RouteEntry) (r : Runtime) (span : List Record),
      e.candidates r span = (match r.carry with | none => [] | some c => [c.toInt]) ++ span.filterMap e.read)
  ∧ (∀ (e : RouteEntry) (sc : Scene) (r : Runtime), e.kind = .peak →
      (e.compose sc r).record.residue = r.residue ∧ (e.compose sc r).limited = false
      ∧ (sc.emits = true →
          (e.compose sc r).record.carry = none
          ∧ (e.compose sc r).value =
              toCue (e.shape (e.theCurve sc.curves) sc.mirror sc.scale ((peakOf (e.candidates r sc.span)).getD 0)).1)
      ∧ (sc.emits = false →
          ((e.compose sc r).record.carry).map BitVec.toInt = peakOf (e.candidates r sc.span)
          ∧ (e.compose sc r).value = 0 ∧ (e.compose sc r).sat = false
          ∧ (e.compose sc r).record.last = toCue (e.clamp r.last.toInt)))

/-- The fade step (R112): a LEVEL entry of a fading window takes its neutral where that is within the fade step, else moves
toward it by the fade step; it reaches the neutral at the composition whose count is the distance divided by the fade step,
rounded up; its slew has no effect, and a SKIP takes the step as well. In HOLD a LEVEL entry presents and keeps its last
output, clamped to its limits (R111); in SETTLED of a SOUND port it presents its neutral and keeps it (R114). -/
def Obligations.FadeStepMovesTowardNeutral : Prop :=
  (∀ (e : RouteEntry) (step : Nat) (last : Int), e.Valid → 1 ≤ step → e.lo.toInt ≤ last → last ≤ e.hi.toInt →
    ((e.neutral.toInt - last).natAbs ≤ step → e.fade step last = e.neutral.toInt)
    ∧ (step < (e.neutral.toInt - last).natAbs →
        e.fade step last = if last < e.neutral.toInt then last + step else last - step)
    ∧ e.lo.toInt ≤ e.fade step last ∧ e.fade step last ≤ e.hi.toInt
    ∧ ∀ k : Nat, (e.fade step)^[k] last = e.neutral.toInt ↔ (e.neutral.toInt - last).natAbs ≤ k * step)
  ∧ (∀ (e : RouteEntry) (sc : Scene) (r : Runtime), e.Valid → e.kind = .level → sc.mode = .fadeStep →
      ((e.compose sc r).value).toInt = e.fade sc.fadeStep (e.clamp r.last.toInt)
      ∧ (e.compose sc r).record = { r with last := (e.compose sc r).value }
      ∧ (e.compose sc r).sat = false ∧ (e.compose sc r).limited = false
      ∧ (∀ (slew : BitVec 15) (tr : Bool), ({ e with slew := slew } : RouteEntry).compose { sc with transmitted := tr } r
          = e.compose sc r))
  ∧ (∀ (e : RouteEntry) (sc : Scene) (r : Runtime), e.kind = .level → sc.mode = .hold →
      ((e.compose sc r).value).toInt = e.clamp r.last.toInt
      ∧ (e.compose sc r).record = { r with last := (e.compose sc r).value }
      ∧ (e.compose sc r).sat = false ∧ (e.compose sc r).limited = false)
  ∧ (∀ (e : RouteEntry) (sc : Scene) (r : Runtime), e.kind = .level → sc.mode = .settle →
      (e.compose sc r).value = e.neutral ∧ (e.compose sc r).record = { r with last := e.neutral }
      ∧ (e.compose sc r).sat = false ∧ (e.compose sc r).limited = false)

/-- The state a composition chooses (R83, R107, R108, R113): RUN while the source is LIVE and the ring not empty; while it is
SILENT, by role and silence age against the hold limit; a CAB port past it chooses SETTLED exactly where every LEVEL entry of its window stands at its
neutral after the fade step. -/
def Obligations.DegradedStateByRoleAndAge : Prop :=
  ∀ (s : State) (p : PortId) (tr : Bool) (c : PortConfig), c = s.ports[p].cfg →
    (∀ last, s.intake.source = .live last → s.intake.ring ≠ [] → (s.frame p tr).state = .run)
    ∧ ∀ last since (age : Nat), s.intake.source = .silent last since → age = since.elapsed s.now →
      (c.role = .vision ∨ age < c.holdTime.toNat * 10000 → (s.frame p tr).state = .hold)
      ∧ (c.role = .sound → c.holdTime.toNat * 10000 ≤ age → (s.frame p tr).state = .settled)
      ∧ (c.role = .cab → c.holdTime.toNat * 10000 ≤ age →
          (s.frame p tr).state =
            if ∀ i ∈ c.window, s.routes.entries[i].kind = .level →
                (s.routes.entries[i].compose (s.scene p tr) s.routes.records[i]).record.last = s.routes.entries[i].neutral
            then .settled else .fade)

/-! ## Compositions and their lag -/

/-- Target, span, lost history and consumption mark (R44, R46, R47, R48), over any ring that is not empty. -/
def Obligations.CompositionPlansItsSpan : Prop :=
  ∀ (s : State) (p : PortId) (pl : Plan), s.IntakeGood → s.intake.ring ≠ [] → pl = s.plan p →
    pl.targetAge = min pl.lag (s.intake.ring.length - 1) ∧ pl.target = s.intake.ni - BitVec.ofNat 32 pl.targetAge
    ∧ pl.mark = (match (if s.ports[p].state = .wait then none else s.ports[p].consumed) with
                 | none => pl.target - 1
                 | some c => c)
    ∧ pl.markAge = (s.intake.ni - pl.mark).toNat
    ∧ (pl.span s.intake.ring).reverse =
        (List.range s.intake.ring.length).filterMap (fun k =>
          if pl.targetAge ≤ k ∧ k < pl.markAge then s.intake.ring[k]? else none)
    ∧ (pl.span s.intake.ring).length = min pl.markAge s.intake.ring.length - pl.targetAge
    ∧ pl.lost s.intake.ring.length = pl.markAge - s.intake.ring.length
    ∧ pl.markAfter = (if pl.targetAge < pl.markAge then pl.target else pl.mark)
    ∧ (s.ports[p].state = .wait → pl.markAge = pl.targetAge + 1 ∧ pl.span s.intake.ring = (s.intake.ring[pl.targetAge]?).toList)

/-- The target lag (R70 to R74): MANUAL gives the manual lag, AUTO without a known latency 0, and AUTO with one the latency
difference in frames, rounded to the nearest and limited to 48. -/
def Obligations.TargetLagAlignsTheSlowestBoard : Prop :=
  ∀ (s : State) (p : PortId),
    (s.ports[p].cfg.lagMode = .manual → s.targetLag p = (s.ports[p].cfg.manualLag.toNat, false))
    ∧ (s.ports[p].cfg.lagMode = .auto → s.ports[p].latency = none → s.targetLag p = (0, false))
    ∧ (∀ l lmax d t : Nat, s.ports[p].cfg.lagMode = .auto →
        (∃ x : Half, s.ports[p].latency = some x ∧ x.toNat = l) →
        (∃ q : PortId, (q = p ∨ s.ports[q].cfg.enable = true) ∧ ∃ x : Half, s.ports[q].latency = some x ∧ x.toNat = lmax) →
        (∀ (q : PortId) (x : Half), (q = p ∨ s.ports[q].cfg.enable = true) → s.ports[q].latency = some x →
          x.toNat ≤ lmax) →
        (d : Int) = max 0 ((lmax : Int) - l + s.ports[p].cfg.trim.toInt) →
        t = (d * 16 + s.intake.e16.toNat / 2) / s.intake.e16.toNat →
        s.targetLag p = (min t 48, decide (48 < t)) ∧ d ≤ 98302)
    ∧ (s.ports[p].cfg.manualLag.toNat ≤ 48 → (s.targetLag p).1 ≤ 48)

/-- The effective lag at a composition (R75 to R78): the start takes the target at once, any other composition moves one
frame toward it, and LAG_WALK says that it is not there yet. -/
def Obligations.EffectiveLagWalksToItsTarget : Prop :=
  ∀ (s : State) (p : PortId) (tr : Bool),
    (s.plan p).targetLag = (s.targetLag p).1 ∧ (s.plan p).limited = (s.targetLag p).2
    ∧ (s.ports[p].state = .wait → (s.plan p).lag = (s.targetLag p).1 ∧ (s.frame p tr).lagWalk = false)
    ∧ (s.ports[p].state ≠ .wait →
        (s.ports[p].lag < (s.targetLag p).1 → (s.plan p).lag = s.ports[p].lag + 1)
        ∧ ((s.targetLag p).1 < s.ports[p].lag → (s.plan p).lag + 1 = s.ports[p].lag)
        ∧ (s.ports[p].lag = (s.targetLag p).1 → (s.plan p).lag = s.ports[p].lag))
    ∧ ((s.frame p tr).lagWalk = true ↔ (s.plan p).lag ≠ (s.targetLag p).1)
    ∧ (s.frame p tr).lag = (s.plan p).lag

/-- A transmitted composition or a SKIP that finds a frame in the ring (R42, R43, R47, R48, R54, R63, R65, R66, R73, R97 to
R99): every entry of the window runs once on its own record, by the span and target of the plan, the configuration of the
port and the mode of R107, and only the port and those records change. -/
def Obligations.ComposingPortConsumesItsSpan : Prop :=
  ∀ (s : State) (p : PortId) (tr : Bool) (d : DestFrame) (pl : Plan) (n : Nat),
    s.ports[p].cfg.enable = true → (s.lane (.output p)).alive = true → s.intake.ring ≠ [] →
    pl = s.plan p → d = s.frame p tr →
    n = (s.ports[p].cfg.window.filter fun i =>
          (s.routes.entries[i].compose (s.scene p tr) s.routes.records[i]).limited).length →
    s.scene p tr = { (s.scene p tr) with
      transmitted := tr, ring := s.intake.ring, targetAge := pl.targetAge, span := pl.span s.intake.ring,
      mirror := s.ports[p].cfg.mirror, scale := s.ports[p].cfg.scale.toNat, fadeStep := s.ports[p].cfg.fadeStep.toNat,
      curves := s.routes.curves }
    ∧ (∀ last, s.intake.source = .live last → (s.scene p tr).mode = .run)
    ∧ (∀ last since (age : Nat), s.intake.source = .silent last since → age = since.elapsed s.now →
        (s.scene p tr).mode =
          match s.ports[p].cfg.role with
          | .vision => .hold
          | .sound => if age < s.ports[p].cfg.holdTime.toNat * 10000 then .hold else .settle
          | .cab => if age < s.ports[p].cfg.holdTime.toNat * 10000 then .hold else .fadeStep)
    ∧ ∃ t, s.compose p tr = t ∧ State.OnlyPort p s t
      ∧ (∀ i ∈ s.ports[p].cfg.window,
          t.routes.records[i] = (s.routes.entries[i].compose (s.scene p tr) s.routes.records[i]).record)
      ∧ d.values = s.ports[p].cfg.window.map (fun i =>
          (s.routes.entries[i].compose (s.scene p tr) s.routes.records[i]).value)
      ∧ (d.sat = true ↔ ∃ i ∈ s.ports[p].cfg.window,
          (s.routes.entries[i].compose (s.scene p tr) s.routes.records[i]).sat = true)
      ∧ d.seq = s.ports[p].seq ∧ (d.lost = true ↔ s.intake.ring.length < pl.markAge)
      ∧ (∀ r, s.intake.ring[pl.targetAge]? = some r → d.targetStep = r.step)
      ∧ t.ports[p] =
        { s.ports[p] with
          state := d.state
          lag := pl.lag
          consumed := some pl.markAfter
          seq := if tr then s.ports[p].seq + 1 else s.ports[p].seq
          lastFrame := if tr then some d else s.ports[p].lastFrame
          tx := if tr then s.ports[p].tx.begin s.now (d.bytes p false) else s.ports[p].tx
          counters := { s.ports[p].counters with
            emitted := if tr then addSat s.ports[p].counters.emitted 1 else s.ports[p].counters.emitted
            skipped := if tr then s.ports[p].counters.skipped else addSat s.ports[p].counters.skipped 1
            historyLost := addSat s.ports[p].counters.historyLost (pl.lost s.intake.ring.length)
            satCompositions := addSat s.ports[p].counters.satCompositions (if d.sat then 1 else 0)
            residueSats := addSat s.ports[p].counters.residueSats n }
          conditions := { s.ports[p].conditions with
            historyLost := s.ports[p].conditions.historyLost || d.lost
            saturated := s.ports[p].conditions.saturated || d.sat
            residueSaturated := s.ports[p].conditions.residueSaturated || decide (0 < n)
            lagLimited := s.ports[p].conditions.lagLimited || pl.limited } }

/-- A transmitted composition or a SKIP that finds the ring empty (R43, R83, R96, R110): the port is in WAIT, each LEVEL
entry presents its neutral and takes it as last output, and each DELTA and PEAK entry presents 0 and keeps its record. -/
def Obligations.ComposingPortWaitsOnAnEmptyRing : Prop :=
  ∀ (s : State) (p : PortId) (tr : Bool) (d : DestFrame),
    s.ports[p].cfg.enable = true → (s.lane (.output p)).alive = true → s.intake.ring = [] →
    d = { seq := s.ports[p].seq, state := .wait, lost := false, sat := false, lagWalk := false, targetStep := 0,
          lag := s.ports[p].lag,
          values := s.ports[p].cfg.window.map fun i =>
            if s.routes.entries[i].kind = .level then s.routes.entries[i].neutral else 0 } →
    ∃ t, s.compose p tr = t ∧ State.OnlyPort p s t
      ∧ (∀ i ∈ s.ports[p].cfg.window,
          t.routes.records[i] =
            if s.routes.entries[i].kind = .level then { s.routes.records[i] with last := s.routes.entries[i].neutral }
            else s.routes.records[i])
      ∧ t.ports[p] =
        { s.ports[p] with
          state := .wait
          seq := if tr then s.ports[p].seq + 1 else s.ports[p].seq
          lastFrame := if tr then some d else s.ports[p].lastFrame
          tx := if tr then s.ports[p].tx.begin s.now (d.bytes p false) else s.ports[p].tx
          counters := { s.ports[p].counters with
            emitted := if tr then addSat s.ports[p].counters.emitted 1 else s.ports[p].counters.emitted
            skipped := if tr then s.ports[p].counters.skipped else addSat s.ports[p].counters.skipped 1 } }

/-- A REPEAT (R64, R75, R76, R98, R99): the last-frame record is sent again with REPEAT set and every other field of the frame
as it was, the lag walks but in WAIT, and nothing else changes; without a record it is a transmitted composition. -/
def Obligations.RepeatResendsTheLastFrame : Prop :=
  ∀ (s : State) (p : PortId), s.ports[p].cfg.enable = true → (s.lane (.output p)).alive = true →
    (s.ports[p].lastFrame = none → s.composeRepeat p = s.compose p true)
    ∧ (∀ d : DestFrame, d.bytes p true =
        withCrc (((d.bytes p false).take (12 + 2 * d.values.length)).set 6 ((d.bytes p false).getD 6 0 ||| 0x08)))
    ∧ ∀ d, s.ports[p].lastFrame = some d →
      ∃ t, s.composeRepeat p = t ∧ t = { s with ports := t.ports } ∧ (∀ q : PortId, q ≠ p → t.ports[q] = s.ports[q])
        ∧ t.ports[p] =
          { s.ports[p] with
            lag := if s.ports[p].state = .wait then s.ports[p].lag else walk s.ports[p].lag (s.targetLag p).1
            tx := s.ports[p].tx.begin s.now (d.bytes p true)
            counters := { s.ports[p].counters with repeated := addSat s.ports[p].counters.repeated 1 }
            conditions := { s.ports[p].conditions with
              lagLimited := s.ports[p].conditions.lagLimited
                || (decide (s.ports[p].state ≠ .wait) && (s.targetLag p).2) } }

/-! ## The events of a port -/

/-- PACE_FRAME (R68, R83, R87, R88, R94): the latency is recorded first; then the frame is taken by the enable, the pacing
mode, its flags and the transmitter. -/
def Obligations.PaceFrameIsTakenByModeAndFlags : Prop :=
  ∀ (s s₁ : State) (p : PortId) (f : Frame), s.goodFrame (.output p) .pace = some f →
    s₁ = (s.endFrame (.output p)).updPort p (fun port => { port with latency := paceLatency f }) →
    State.FrameTaken (.output p) s s₁
    ∧ s₁ = { s with link := { s.link with lanes := s₁.link.lanes }, ports := s₁.ports }
    ∧ (∀ q : PortId, q ≠ p → s₁.ports[q] = s.ports[q])
    ∧ s₁.ports[p] = { s.ports[p] with latency := if be16 f 6 = 0xFFFF then none else some (be16 f 6) }
    ∧ (s.ports[p].cfg.enable = false ∨ s.ports[p].cfg.pacing = .timer → exec (.paceFrame p) s = .next s₁)
    ∧ (s.ports[p].cfg.enable = true → s.ports[p].cfg.pacing = .locked →
        exec (.paceFrame p) s = .next (s₁.updPort p fun port =>
          { port with timer := some (s.now + BitVec.ofNat 32 s.ports[p].cfg.interval) }))
    ∧ (s.ports[p].cfg.enable = true → s.ports[p].cfg.pacing = .peer →
        (((f.getD 4 0).getLsbD 0 = false ∧ (f.getD 4 0).getLsbD 1 = false → exec (.paceFrame p) s = .next s₁)
        ∧ ((f.getD 4 0).getLsbD 0 = false ∧ (f.getD 4 0).getLsbD 1 = true →
            exec (.paceFrame p) s = .next (s₁.compose p false))
        ∧ ((f.getD 4 0).getLsbD 0 = true ∧ s.ports[p].tx.busy = false →
            exec (.paceFrame p) s =
              .next (if (f.getD 4 0).getLsbD 1 then s₁.compose p true else s₁.composeRepeat p))
        ∧ ((f.getD 4 0).getLsbD 0 = true ∧ s.ports[p].tx.busy = true →
            exec (.paceFrame p) s = .next (s₁.updPort p fun port =>
              { port with
                mark := some (if (f.getD 4 0).getLsbD 1 then .wantAdvance else .want)
                counters := { port.counters with
                  paceOverruns := addSat port.counters.paceOverruns (if s.ports[p].mark.isSome then 1 else 0) }
                conditions := { port.conditions with
                  paceOverrun := port.conditions.paceOverrun || s.ports[p].mark.isSome } }))))

/-- INTERVAL_TIMER_EXPIRY (R92, R93, R101): the next expiry is one interval after this one, whatever this one causes; on a
DOWN lane nothing else happens, while sending it is an overrun, and otherwise the port composes. When an expiry counts as
reached is THE MODEL'S READING (log 8). -/
def Obligations.TimerExpiryComposesOrOverruns : Prop :=
  ∀ (s s₁ : State) (p : PortId) (expiry : Time), s.ports[p].timer = some expiry → reached s.now expiry = true →
    s₁ = s.updPort p (fun port => { port with timer := some (expiry + BitVec.ofNat 32 s.ports[p].cfg.interval) }) →
    ((s.lane (.output p)).alive = false → exec (.intervalTimerExpiry p) s = .next s₁)
    ∧ ((s.lane (.output p)).alive = true → s.ports[p].tx.busy = true →
        exec (.intervalTimerExpiry p) s = .next (s₁.updPort p fun port =>
          { port with
            counters := { port.counters with timerOverruns := addSat port.counters.timerOverruns 1 }
            conditions := { port.conditions with timerOverrun := true } }))
    ∧ ((s.lane (.output p)).alive = true → s.ports[p].tx.busy = false →
        exec (.intervalTimerExpiry p) s = .next (s₁.compose p true))

/-- DEST_TRANSMISSION_END (R89): the transmitter becomes idle and a pending mark is taken at the same event. When an
end time counts as reached is THE MODEL'S READING (log 8). -/
def Obligations.TransmissionEndTakesThePendingMark : Prop :=
  ∀ (s s₁ : State) (p : PortId) (x : Transmission), s.ports[p].tx.sending = some x → reached s.now x.ends = true →
    s₁ = s.updPort p (fun port => { port with mark := none, tx := { port.tx with sending := none } }) →
    (s.ports[p].mark = none → exec (.destTransmissionEnd p) s = .next s₁)
    ∧ (s.ports[p].mark = some .wantAdvance → exec (.destTransmissionEnd p) s = .next (s₁.compose p true))
    ∧ (s.ports[p].mark = some .want → exec (.destTransmissionEnd p) s = .next (s₁.composeRepeat p))

/-! ## Invariants -/

/-- The invariants hold right after reset (on the unit address of log 1). -/
def Obligations.InvariantsHoldAtReset : Prop :=
  State.reset.IntakeGood ∧ State.reset.RoutesGood ∧ State.reset.PortsGood ∧ State.reset.WindowsDisjoint
  ∧ State.reset.LinkGood ∧ State.reset.ExecutorGood

/-- Every step keeps the ring's numbering, its depth, and the ranges of the intake (R7, R8, R9, R11, R17, R18). -/
def Obligations.StepKeepsIntakeGood : Prop :=
  ∀ s t : State, s.IntakeGood → step s = .next t → t.IntakeGood

/-- Every step keeps each entry's neutral within its limits and each residue within ±2^30 (R23, R27, R54). -/
def Obligations.StepKeepsRoutesGood : Prop :=
  ∀ s t : State, s.RoutesGood → step s = .next t → t.RoutesGood

/-- Every step keeps each port's configuration within its ranges and its runtime in agreement with its enable, its pacing,
its lane and the ring (R34, R74, R76, R83, R88, R91, R92, R101). -/
def Obligations.StepKeepsPortsGood : Prop :=
  ∀ s t : State, s.PortsGood → step s = .next t → t.PortsGood

/-- No step makes the windows of two enabled ports share an entry (R35). -/
def Obligations.StepKeepsWindowsDisjoint : Prop :=
  ∀ s t : State, s.WindowsDisjoint → step s = .next t → t.WindowsDisjoint

/-- Every step keeps the link interface's queues within their places and its arbiter at work (R124, R126, R133, R134, R136,
R137, R139). -/
def Obligations.StepKeepsLinkGood : Prop :=
  ∀ s t : State, s.LinkGood → step s = .next t → t.LinkGood

/-- Every step keeps an open batch at one to four frames (R141, R142). -/
def Obligations.StepKeepsExecutorGood : Prop :=
  ∀ s t : State, s.ExecutorGood → step s = .next t → t.ExecutorGood
end

