-- ==== Sys2Proof/Laws/Arith.lean ====
section
/-! SUPPORT. The arithmetic the stages and counters rest on. -/

namespace Sys2Proof.Machine

/-- A clamped value lies within its range. -/
theorem clampInt_bounds (lo hi x : Int) (h : lo ≤ hi) : lo ≤ clampInt lo hi x ∧ clampInt lo hi x ≤ hi := by
  unfold clampInt
  split
  · omega
  · split <;> omega

/-- A value within the range is left as it is. -/
theorem clampInt_of_mem (lo hi x : Int) (h₁ : lo ≤ x) (h₂ : x ≤ hi) : clampInt lo hi x = x := by
  unfold clampInt
  split
  · omega
  · split <;> omega

/-- A value of the signed 16-bit range keeps its value as a cue. -/
theorem toCue_toInt (x : Int) (h₁ : -32768 ≤ x) (h₂ : x ≤ 32767) : (toCue x).toInt = x := by
  unfold toCue
  rw [BitVec.toInt_ofInt]
  simp only [Int.bmod_def]
  omega

/-- A cue lies within the signed 16-bit range. -/
theorem cue_range (c : Cue) : -32768 ≤ c.toInt ∧ c.toInt ≤ 32767 := by
  have h₁ := BitVec.le_toInt c
  have h₂ := BitVec.toInt_lt (x := c)
  constructor <;> omega

/-- An entry's clamp gives a value of the cue range, whatever its limits. -/
theorem RouteEntry.clamp_range (e : RouteEntry) (x : Int) : -32768 ≤ e.clamp x ∧ e.clamp x ≤ 32767 := by
  have h₁ := cue_range e.lo
  have h₂ := cue_range e.hi
  unfold RouteEntry.clamp clampInt
  split
  · omega
  · split <;> omega

/-- The clamped value stands unchanged in the record. -/
theorem RouteEntry.toCue_clamp (e : RouteEntry) (x : Int) : (toCue (e.clamp x)).toInt = e.clamp x :=
  toCue_toInt _ (e.clamp_range x).1 (e.clamp_range x).2

/-- The result of the first four stages is a clamped value. -/
theorem RouteEntry.shape_range (e : RouteEntry) (c : Option Curve) (mirror : Bool) (scale : Nat) (v : Int) :
    -32768 ≤ (e.shape c mirror scale v).1 ∧ (e.shape c mirror scale v).1 ≤ 32767 := e.clamp_range _

theorem sumInt_eq_sum (xs : List Int) : sumInt xs = xs.sum := rfl

/-- A window has no entry twice. -/
theorem PortConfig.window_nodup (c : PortConfig) : c.window.Nodup := by
  unfold PortConfig.window
  refine List.Nodup.filterMap ?_ List.nodup_range
  intro a a' b ha ha'
  simp only [Option.mem_def] at ha ha'
  split at ha <;> simp at ha
  split at ha' <;> simp at ha'
  subst ha
  simp [Fin.ext_iff] at ha'
  omega

end Sys2Proof.Machine
end

