-- ==== Sys2Proof/Laws/Compose.lean ====
section
/-! SUPPORT. What a composition writes: its port, and the records of its window. -/

namespace Sys2Proof.Machine

/-- A composition changes its port and runtime records alone. -/
theorem State.compose_frame (p : PortId) (tr : Bool) (s : State) :
    s.compose p tr =
      { s with ports := (s.compose p tr).ports,
               routes := { s.routes with records := (s.compose p tr).routes.records } } := by
  unfold State.compose
  split <;> rfl

/-- A composition changes no other port. -/
theorem State.compose_port_ne (p q : PortId) (tr : Bool) (s : State) (h : q ≠ p) :
    (s.compose p tr).ports[q] = s.ports[q] := by
  have h' : p.val ≠ q.val := fun e => h (Fin.ext e.symm)
  unfold State.compose
  split
  · simp only [Fin.getElem_fin]
    exact Vector.getElem_set_ne _ _ h'
  · rfl

/-- Writing the records of a window leaves every other record. -/
theorem writeRecords_other (outs : WindowOut) (recs : Vector Runtime 96) (i : EntryId) (h : ∀ o ∈ outs, o.1 ≠ i) :
    (writeRecords recs outs)[i] = recs[i] := by
  induction outs generalizing recs with
  | nil => rfl
  | cons o outs ih =>
    have h₁ : o.1.val ≠ i.val := fun e => h o (by simp) (Fin.ext e)
    have h₂ : ∀ o' ∈ outs, o'.1 ≠ i := fun o' m => h o' (by simp [m])
    have := ih (recs.set o.1 o.2.record) h₂
    simp only [writeRecords, List.foldl_cons] at this ⊢
    rw [this]
    simp only [Fin.getElem_fin]
    exact Vector.getElem_set_ne _ _ h₁

/-- A REPEAT changes its port and runtime records alone. -/
theorem State.composeRepeat_frame (p : PortId) (s : State) :
    s.composeRepeat p =
      { s with ports := (s.composeRepeat p).ports,
               routes := { s.routes with records := (s.composeRepeat p).routes.records } } := by
  unfold State.composeRepeat
  split
  · split
    · rw [State.compose_frame]
    · rfl
  · rfl

end Sys2Proof.Machine
end

