-- ==== Sys2Proof/Laws/State.lean ====
section
/-! SUPPORT. One lemma per field and update of State, and the lemmas of lanes and ports. -/

namespace Sys2Proof.Machine

/-! ## Plain updates -/

@[simp] theorem State.updLane_pending (s : State) (l : Lane) (f : RxLane → RxLane) : (s.updLane l f).pending = s.pending := rfl
@[simp] theorem State.updLane_choices (s : State) (l : Lane) (f : RxLane → RxLane) : (s.updLane l f).choices = s.choices := rfl
@[simp] theorem State.updLane_now (s : State) (l : Lane) (f : RxLane → RxLane) : (s.updLane l f).now = s.now := rfl
@[simp] theorem State.updLane_unitAddress (s : State) (l : Lane) (f : RxLane → RxLane) : (s.updLane l f).unitAddress = s.unitAddress := rfl
@[simp] theorem State.updLane_intake (s : State) (l : Lane) (f : RxLane → RxLane) : (s.updLane l f).intake = s.intake := rfl
@[simp] theorem State.updLane_routes (s : State) (l : Lane) (f : RxLane → RxLane) : (s.updLane l f).routes = s.routes := rfl
@[simp] theorem State.updLane_ports (s : State) (l : Lane) (f : RxLane → RxLane) : (s.updLane l f).ports = s.ports := rfl
@[simp] theorem State.updLane_executor (s : State) (l : Lane) (f : RxLane → RxLane) : (s.updLane l f).executor = s.executor := rfl
@[simp] theorem State.updLane_counters (s : State) (l : Lane) (f : RxLane → RxLane) : (s.updLane l f).counters = s.counters := rfl
@[simp] theorem State.updLane_conditions (s : State) (l : Lane) (f : RxLane → RxLane) : (s.updLane l f).conditions = s.conditions := rfl
@[simp] theorem State.updPort_pending (s : State) (p : PortId) (f : Port → Port) : (s.updPort p f).pending = s.pending := rfl
@[simp] theorem State.updPort_choices (s : State) (p : PortId) (f : Port → Port) : (s.updPort p f).choices = s.choices := rfl
@[simp] theorem State.updPort_now (s : State) (p : PortId) (f : Port → Port) : (s.updPort p f).now = s.now := rfl
@[simp] theorem State.updPort_unitAddress (s : State) (p : PortId) (f : Port → Port) : (s.updPort p f).unitAddress = s.unitAddress := rfl
@[simp] theorem State.updPort_intake (s : State) (p : PortId) (f : Port → Port) : (s.updPort p f).intake = s.intake := rfl
@[simp] theorem State.updPort_routes (s : State) (p : PortId) (f : Port → Port) : (s.updPort p f).routes = s.routes := rfl
@[simp] theorem State.updPort_link (s : State) (p : PortId) (f : Port → Port) : (s.updPort p f).link = s.link := rfl
@[simp] theorem State.updPort_executor (s : State) (p : PortId) (f : Port → Port) : (s.updPort p f).executor = s.executor := rfl
@[simp] theorem State.updPort_counters (s : State) (p : PortId) (f : Port → Port) : (s.updPort p f).counters = s.counters := rfl
@[simp] theorem State.updPort_conditions (s : State) (p : PortId) (f : Port → Port) : (s.updPort p f).conditions = s.conditions := rfl
@[simp] theorem State.raiseLinkError_pending (s : State) : (s.raiseLinkError).pending = s.pending := rfl
@[simp] theorem State.raiseLinkError_choices (s : State) : (s.raiseLinkError).choices = s.choices := rfl
@[simp] theorem State.raiseLinkError_now (s : State) : (s.raiseLinkError).now = s.now := rfl
@[simp] theorem State.raiseLinkError_unitAddress (s : State) : (s.raiseLinkError).unitAddress = s.unitAddress := rfl
@[simp] theorem State.raiseLinkError_intake (s : State) : (s.raiseLinkError).intake = s.intake := rfl
@[simp] theorem State.raiseLinkError_routes (s : State) : (s.raiseLinkError).routes = s.routes := rfl
@[simp] theorem State.raiseLinkError_ports (s : State) : (s.raiseLinkError).ports = s.ports := rfl
@[simp] theorem State.raiseLinkError_link (s : State) : (s.raiseLinkError).link = s.link := rfl
@[simp] theorem State.raiseLinkError_executor (s : State) : (s.raiseLinkError).executor = s.executor := rfl
@[simp] theorem State.raiseLinkError_counters (s : State) : (s.raiseLinkError).counters = s.counters := rfl
@[simp] theorem State.countCrcError_pending (s : State) (l : Lane) : (s.countCrcError l).pending = s.pending := rfl
@[simp] theorem State.countCrcError_choices (s : State) (l : Lane) : (s.countCrcError l).choices = s.choices := rfl
@[simp] theorem State.countCrcError_now (s : State) (l : Lane) : (s.countCrcError l).now = s.now := rfl
@[simp] theorem State.countCrcError_unitAddress (s : State) (l : Lane) : (s.countCrcError l).unitAddress = s.unitAddress := rfl
@[simp] theorem State.countCrcError_intake (s : State) (l : Lane) : (s.countCrcError l).intake = s.intake := rfl
@[simp] theorem State.countCrcError_routes (s : State) (l : Lane) : (s.countCrcError l).routes = s.routes := rfl
@[simp] theorem State.countCrcError_ports (s : State) (l : Lane) : (s.countCrcError l).ports = s.ports := rfl
@[simp] theorem State.countCrcError_executor (s : State) (l : Lane) : (s.countCrcError l).executor = s.executor := rfl
@[simp] theorem State.countCrcError_counters (s : State) (l : Lane) : (s.countCrcError l).counters = s.counters := rfl
@[simp] theorem State.countCodeError_pending (s : State) (l : Lane) : (s.countCodeError l).pending = s.pending := rfl
@[simp] theorem State.countCodeError_choices (s : State) (l : Lane) : (s.countCodeError l).choices = s.choices := rfl
@[simp] theorem State.countCodeError_now (s : State) (l : Lane) : (s.countCodeError l).now = s.now := rfl
@[simp] theorem State.countCodeError_unitAddress (s : State) (l : Lane) : (s.countCodeError l).unitAddress = s.unitAddress := rfl
@[simp] theorem State.countCodeError_intake (s : State) (l : Lane) : (s.countCodeError l).intake = s.intake := rfl
@[simp] theorem State.countCodeError_routes (s : State) (l : Lane) : (s.countCodeError l).routes = s.routes := rfl
@[simp] theorem State.countCodeError_ports (s : State) (l : Lane) : (s.countCodeError l).ports = s.ports := rfl
@[simp] theorem State.countCodeError_executor (s : State) (l : Lane) : (s.countCodeError l).executor = s.executor := rfl
@[simp] theorem State.countCodeError_counters (s : State) (l : Lane) : (s.countCodeError l).counters = s.counters := rfl
@[simp] theorem State.countBadFrame_pending (s : State) (l : Lane) : (s.countBadFrame l).pending = s.pending := rfl
@[simp] theorem State.countBadFrame_choices (s : State) (l : Lane) : (s.countBadFrame l).choices = s.choices := rfl
@[simp] theorem State.countBadFrame_now (s : State) (l : Lane) : (s.countBadFrame l).now = s.now := rfl
@[simp] theorem State.countBadFrame_unitAddress (s : State) (l : Lane) : (s.countBadFrame l).unitAddress = s.unitAddress := rfl
@[simp] theorem State.countBadFrame_intake (s : State) (l : Lane) : (s.countBadFrame l).intake = s.intake := rfl
@[simp] theorem State.countBadFrame_routes (s : State) (l : Lane) : (s.countBadFrame l).routes = s.routes := rfl
@[simp] theorem State.countBadFrame_ports (s : State) (l : Lane) : (s.countBadFrame l).ports = s.ports := rfl
@[simp] theorem State.countBadFrame_executor (s : State) (l : Lane) : (s.countBadFrame l).executor = s.executor := rfl
@[simp] theorem State.countBadFrame_counters (s : State) (l : Lane) : (s.countBadFrame l).counters = s.counters := rfl
@[simp] theorem State.countAborted_pending (s : State) (l : Lane) : (s.countAborted l).pending = s.pending := rfl
@[simp] theorem State.countAborted_choices (s : State) (l : Lane) : (s.countAborted l).choices = s.choices := rfl
@[simp] theorem State.countAborted_now (s : State) (l : Lane) : (s.countAborted l).now = s.now := rfl
@[simp] theorem State.countAborted_unitAddress (s : State) (l : Lane) : (s.countAborted l).unitAddress = s.unitAddress := rfl
@[simp] theorem State.countAborted_intake (s : State) (l : Lane) : (s.countAborted l).intake = s.intake := rfl
@[simp] theorem State.countAborted_routes (s : State) (l : Lane) : (s.countAborted l).routes = s.routes := rfl
@[simp] theorem State.countAborted_ports (s : State) (l : Lane) : (s.countAborted l).ports = s.ports := rfl
@[simp] theorem State.countAborted_executor (s : State) (l : Lane) : (s.countAborted l).executor = s.executor := rfl
@[simp] theorem State.countAborted_counters (s : State) (l : Lane) : (s.countAborted l).counters = s.counters := rfl
@[simp] theorem State.countAborted_conditions (s : State) (l : Lane) : (s.countAborted l).conditions = s.conditions := rfl
@[simp] theorem State.countLockLoss_pending (s : State) (l : Lane) : (s.countLockLoss l).pending = s.pending := rfl
@[simp] theorem State.countLockLoss_choices (s : State) (l : Lane) : (s.countLockLoss l).choices = s.choices := rfl
@[simp] theorem State.countLockLoss_now (s : State) (l : Lane) : (s.countLockLoss l).now = s.now := rfl
@[simp] theorem State.countLockLoss_unitAddress (s : State) (l : Lane) : (s.countLockLoss l).unitAddress = s.unitAddress := rfl
@[simp] theorem State.countLockLoss_intake (s : State) (l : Lane) : (s.countLockLoss l).intake = s.intake := rfl
@[simp] theorem State.countLockLoss_routes (s : State) (l : Lane) : (s.countLockLoss l).routes = s.routes := rfl
@[simp] theorem State.countLockLoss_ports (s : State) (l : Lane) : (s.countLockLoss l).ports = s.ports := rfl
@[simp] theorem State.countLockLoss_executor (s : State) (l : Lane) : (s.countLockLoss l).executor = s.executor := rfl
@[simp] theorem State.countLockLoss_counters (s : State) (l : Lane) : (s.countLockLoss l).counters = s.counters := rfl
@[simp] theorem State.countLockLoss_conditions (s : State) (l : Lane) : (s.countLockLoss l).conditions = s.conditions := rfl
@[simp] theorem State.countCueAccepted_pending (s : State) : (s.countCueAccepted).pending = s.pending := rfl
@[simp] theorem State.countCueAccepted_choices (s : State) : (s.countCueAccepted).choices = s.choices := rfl
@[simp] theorem State.countCueAccepted_now (s : State) : (s.countCueAccepted).now = s.now := rfl
@[simp] theorem State.countCueAccepted_unitAddress (s : State) : (s.countCueAccepted).unitAddress = s.unitAddress := rfl
@[simp] theorem State.countCueAccepted_intake (s : State) : (s.countCueAccepted).intake = s.intake := rfl
@[simp] theorem State.countCueAccepted_routes (s : State) : (s.countCueAccepted).routes = s.routes := rfl
@[simp] theorem State.countCueAccepted_ports (s : State) : (s.countCueAccepted).ports = s.ports := rfl
@[simp] theorem State.countCueAccepted_link (s : State) : (s.countCueAccepted).link = s.link := rfl
@[simp] theorem State.countCueAccepted_executor (s : State) : (s.countCueAccepted).executor = s.executor := rfl
@[simp] theorem State.countCueAccepted_conditions (s : State) : (s.countCueAccepted).conditions = s.conditions := rfl
@[simp] theorem State.countStepStale_pending (s : State) : (s.countStepStale).pending = s.pending := rfl
@[simp] theorem State.countStepStale_choices (s : State) : (s.countStepStale).choices = s.choices := rfl
@[simp] theorem State.countStepStale_now (s : State) : (s.countStepStale).now = s.now := rfl
@[simp] theorem State.countStepStale_unitAddress (s : State) : (s.countStepStale).unitAddress = s.unitAddress := rfl
@[simp] theorem State.countStepStale_intake (s : State) : (s.countStepStale).intake = s.intake := rfl
@[simp] theorem State.countStepStale_routes (s : State) : (s.countStepStale).routes = s.routes := rfl
@[simp] theorem State.countStepStale_ports (s : State) : (s.countStepStale).ports = s.ports := rfl
@[simp] theorem State.countStepStale_link (s : State) : (s.countStepStale).link = s.link := rfl
@[simp] theorem State.countStepStale_executor (s : State) : (s.countStepStale).executor = s.executor := rfl
@[simp] theorem State.countSilent_pending (s : State) : (s.countSilent).pending = s.pending := rfl
@[simp] theorem State.countSilent_choices (s : State) : (s.countSilent).choices = s.choices := rfl
@[simp] theorem State.countSilent_now (s : State) : (s.countSilent).now = s.now := rfl
@[simp] theorem State.countSilent_unitAddress (s : State) : (s.countSilent).unitAddress = s.unitAddress := rfl
@[simp] theorem State.countSilent_intake (s : State) : (s.countSilent).intake = s.intake := rfl
@[simp] theorem State.countSilent_routes (s : State) : (s.countSilent).routes = s.routes := rfl
@[simp] theorem State.countSilent_ports (s : State) : (s.countSilent).ports = s.ports := rfl
@[simp] theorem State.countSilent_link (s : State) : (s.countSilent).link = s.link := rfl
@[simp] theorem State.countSilent_executor (s : State) : (s.countSilent).executor = s.executor := rfl
@[simp] theorem State.countBatchFault_pending (s : State) : (s.countBatchFault).pending = s.pending := rfl
@[simp] theorem State.countBatchFault_choices (s : State) : (s.countBatchFault).choices = s.choices := rfl
@[simp] theorem State.countBatchFault_now (s : State) : (s.countBatchFault).now = s.now := rfl
@[simp] theorem State.countBatchFault_unitAddress (s : State) : (s.countBatchFault).unitAddress = s.unitAddress := rfl
@[simp] theorem State.countBatchFault_intake (s : State) : (s.countBatchFault).intake = s.intake := rfl
@[simp] theorem State.countBatchFault_routes (s : State) : (s.countBatchFault).routes = s.routes := rfl
@[simp] theorem State.countBatchFault_ports (s : State) : (s.countBatchFault).ports = s.ports := rfl
@[simp] theorem State.countBatchFault_link (s : State) : (s.countBatchFault).link = s.link := rfl
@[simp] theorem State.countBatchFault_executor (s : State) : (s.countBatchFault).executor = s.executor := rfl
@[simp] theorem State.countRefused_pending (s : State) : (s.countRefused).pending = s.pending := rfl
@[simp] theorem State.countRefused_choices (s : State) : (s.countRefused).choices = s.choices := rfl
@[simp] theorem State.countRefused_now (s : State) : (s.countRefused).now = s.now := rfl
@[simp] theorem State.countRefused_unitAddress (s : State) : (s.countRefused).unitAddress = s.unitAddress := rfl
@[simp] theorem State.countRefused_intake (s : State) : (s.countRefused).intake = s.intake := rfl
@[simp] theorem State.countRefused_routes (s : State) : (s.countRefused).routes = s.routes := rfl
@[simp] theorem State.countRefused_ports (s : State) : (s.countRefused).ports = s.ports := rfl
@[simp] theorem State.countRefused_link (s : State) : (s.countRefused).link = s.link := rfl
@[simp] theorem State.countRefused_executor (s : State) : (s.countRefused).executor = s.executor := rfl
@[simp] theorem State.countRequestDropped_pending (s : State) : (s.countRequestDropped).pending = s.pending := rfl
@[simp] theorem State.countRequestDropped_choices (s : State) : (s.countRequestDropped).choices = s.choices := rfl
@[simp] theorem State.countRequestDropped_now (s : State) : (s.countRequestDropped).now = s.now := rfl
@[simp] theorem State.countRequestDropped_unitAddress (s : State) : (s.countRequestDropped).unitAddress = s.unitAddress := rfl
@[simp] theorem State.countRequestDropped_intake (s : State) : (s.countRequestDropped).intake = s.intake := rfl
@[simp] theorem State.countRequestDropped_routes (s : State) : (s.countRequestDropped).routes = s.routes := rfl
@[simp] theorem State.countRequestDropped_ports (s : State) : (s.countRequestDropped).ports = s.ports := rfl
@[simp] theorem State.countRequestDropped_link (s : State) : (s.countRequestDropped).link = s.link := rfl
@[simp] theorem State.countRequestDropped_executor (s : State) : (s.countRequestDropped).executor = s.executor := rfl
@[simp] theorem State.countReturnDropped_pending (s : State) : (s.countReturnDropped).pending = s.pending := rfl
@[simp] theorem State.countReturnDropped_choices (s : State) : (s.countReturnDropped).choices = s.choices := rfl
@[simp] theorem State.countReturnDropped_now (s : State) : (s.countReturnDropped).now = s.now := rfl
@[simp] theorem State.countReturnDropped_unitAddress (s : State) : (s.countReturnDropped).unitAddress = s.unitAddress := rfl
@[simp] theorem State.countReturnDropped_intake (s : State) : (s.countReturnDropped).intake = s.intake := rfl
@[simp] theorem State.countReturnDropped_routes (s : State) : (s.countReturnDropped).routes = s.routes := rfl
@[simp] theorem State.countReturnDropped_ports (s : State) : (s.countReturnDropped).ports = s.ports := rfl
@[simp] theorem State.countReturnDropped_link (s : State) : (s.countReturnDropped).link = s.link := rfl
@[simp] theorem State.countReturnDropped_executor (s : State) : (s.countReturnDropped).executor = s.executor := rfl
@[simp] theorem State.countGap_pending (s : State) (n : Nat) : (s.countGap n).pending = s.pending := rfl
@[simp] theorem State.countGap_choices (s : State) (n : Nat) : (s.countGap n).choices = s.choices := rfl
@[simp] theorem State.countGap_now (s : State) (n : Nat) : (s.countGap n).now = s.now := rfl
@[simp] theorem State.countGap_unitAddress (s : State) (n : Nat) : (s.countGap n).unitAddress = s.unitAddress := rfl
@[simp] theorem State.countGap_intake (s : State) (n : Nat) : (s.countGap n).intake = s.intake := rfl
@[simp] theorem State.countGap_routes (s : State) (n : Nat) : (s.countGap n).routes = s.routes := rfl
@[simp] theorem State.countGap_ports (s : State) (n : Nat) : (s.countGap n).ports = s.ports := rfl
@[simp] theorem State.countGap_link (s : State) (n : Nat) : (s.countGap n).link = s.link := rfl
@[simp] theorem State.countGap_executor (s : State) (n : Nat) : (s.countGap n).executor = s.executor := rfl
@[simp] theorem State.setLink_pending (s : State) (l : Lane) (x : LinkState) : (s.setLink l x).pending = s.pending := rfl
@[simp] theorem State.setLink_choices (s : State) (l : Lane) (x : LinkState) : (s.setLink l x).choices = s.choices := rfl
@[simp] theorem State.setLink_now (s : State) (l : Lane) (x : LinkState) : (s.setLink l x).now = s.now := rfl
@[simp] theorem State.setLink_unitAddress (s : State) (l : Lane) (x : LinkState) : (s.setLink l x).unitAddress = s.unitAddress := rfl
@[simp] theorem State.setLink_intake (s : State) (l : Lane) (x : LinkState) : (s.setLink l x).intake = s.intake := rfl
@[simp] theorem State.setLink_routes (s : State) (l : Lane) (x : LinkState) : (s.setLink l x).routes = s.routes := rfl
@[simp] theorem State.setLink_ports (s : State) (l : Lane) (x : LinkState) : (s.setLink l x).ports = s.ports := rfl
@[simp] theorem State.setLink_executor (s : State) (l : Lane) (x : LinkState) : (s.setLink l x).executor = s.executor := rfl
@[simp] theorem State.setLink_counters (s : State) (l : Lane) (x : LinkState) : (s.setLink l x).counters = s.counters := rfl
@[simp] theorem State.setLink_conditions (s : State) (l : Lane) (x : LinkState) : (s.setLink l x).conditions = s.conditions := rfl
@[simp] theorem State.setAsm_pending (s : State) (l : Lane) (x : Option Frame) : (s.setAsm l x).pending = s.pending := rfl
@[simp] theorem State.setAsm_choices (s : State) (l : Lane) (x : Option Frame) : (s.setAsm l x).choices = s.choices := rfl
@[simp] theorem State.setAsm_now (s : State) (l : Lane) (x : Option Frame) : (s.setAsm l x).now = s.now := rfl
@[simp] theorem State.setAsm_unitAddress (s : State) (l : Lane) (x : Option Frame) : (s.setAsm l x).unitAddress = s.unitAddress := rfl
@[simp] theorem State.setAsm_intake (s : State) (l : Lane) (x : Option Frame) : (s.setAsm l x).intake = s.intake := rfl
@[simp] theorem State.setAsm_routes (s : State) (l : Lane) (x : Option Frame) : (s.setAsm l x).routes = s.routes := rfl
@[simp] theorem State.setAsm_ports (s : State) (l : Lane) (x : Option Frame) : (s.setAsm l x).ports = s.ports := rfl
@[simp] theorem State.setAsm_executor (s : State) (l : Lane) (x : Option Frame) : (s.setAsm l x).executor = s.executor := rfl
@[simp] theorem State.setAsm_counters (s : State) (l : Lane) (x : Option Frame) : (s.setAsm l x).counters = s.counters := rfl
@[simp] theorem State.setAsm_conditions (s : State) (l : Lane) (x : Option Frame) : (s.setAsm l x).conditions = s.conditions := rfl
@[simp] theorem State.endFrame_pending (s : State) (l : Lane) : (s.endFrame l).pending = s.pending := rfl
@[simp] theorem State.endFrame_choices (s : State) (l : Lane) : (s.endFrame l).choices = s.choices := rfl
@[simp] theorem State.endFrame_now (s : State) (l : Lane) : (s.endFrame l).now = s.now := rfl
@[simp] theorem State.endFrame_unitAddress (s : State) (l : Lane) : (s.endFrame l).unitAddress = s.unitAddress := rfl
@[simp] theorem State.endFrame_intake (s : State) (l : Lane) : (s.endFrame l).intake = s.intake := rfl
@[simp] theorem State.endFrame_routes (s : State) (l : Lane) : (s.endFrame l).routes = s.routes := rfl
@[simp] theorem State.endFrame_ports (s : State) (l : Lane) : (s.endFrame l).ports = s.ports := rfl
@[simp] theorem State.endFrame_executor (s : State) (l : Lane) : (s.endFrame l).executor = s.executor := rfl
@[simp] theorem State.endFrame_counters (s : State) (l : Lane) : (s.endFrame l).counters = s.counters := rfl
@[simp] theorem State.endFrame_conditions (s : State) (l : Lane) : (s.endFrame l).conditions = s.conditions := rfl
@[simp] theorem State.expireSource_pending (s : State) (t : Stamp) : (s.expireSource t).pending = s.pending := rfl
@[simp] theorem State.expireSource_choices (s : State) (t : Stamp) : (s.expireSource t).choices = s.choices := rfl
@[simp] theorem State.expireSource_now (s : State) (t : Stamp) : (s.expireSource t).now = s.now := rfl
@[simp] theorem State.expireSource_unitAddress (s : State) (t : Stamp) : (s.expireSource t).unitAddress = s.unitAddress := rfl
@[simp] theorem State.expireSource_routes (s : State) (t : Stamp) : (s.expireSource t).routes = s.routes := rfl
@[simp] theorem State.expireSource_ports (s : State) (t : Stamp) : (s.expireSource t).ports = s.ports := rfl
@[simp] theorem State.expireSource_link (s : State) (t : Stamp) : (s.expireSource t).link = s.link := rfl
@[simp] theorem State.expireSource_executor (s : State) (t : Stamp) : (s.expireSource t).executor = s.executor := rfl

/-! ## Lanes and ports -/

theorem laneIndex_injective {l m : Lane} (h : laneIndex l = laneIndex m) : l = m := by
  have hv := congrArg Fin.val h
  cases l with
  | upstream =>
    cases m with
    | upstream => rfl
    | thru => exact absurd hv (by decide)
    | output q => exact absurd hv (by change 0 ≠ q.val + 2; omega)
  | thru =>
    cases m with
    | upstream => exact absurd hv (by decide)
    | thru => rfl
    | output q => exact absurd hv (by change 1 ≠ q.val + 2; omega)
  | output p =>
    cases m with
    | upstream => exact absurd hv (by change p.val + 2 ≠ 0; omega)
    | thru => exact absurd hv (by change p.val + 2 ≠ 1; omega)
    | output q =>
      have e : p.val + 2 = q.val + 2 := hv
      exact congrArg Lane.output (Fin.ext (by omega))

@[simp] theorem State.lane_updLane_same (s : State) (l : Lane) (f : RxLane → RxLane) :
    (s.updLane l f).lane l = f (s.lane l) := by
  simp [State.lane, State.updLane]

@[simp] theorem State.lane_updLane_other (s : State) {l m : Lane} (f : RxLane → RxLane) (h : m ≠ l) :
    (s.updLane l f).lane m = s.lane m := by
  have h' : laneIndex l ≠ laneIndex m := fun e => h (laneIndex_injective e).symm
  simp only [State.lane, State.updLane]
  exact Vector.getElem_set_ne _ _ (fun e => h' (Fin.ext e))

/-- A lane depends on the link interface alone. -/
theorem State.lane_congr {s t : State} (h : t.link.lanes = s.link.lanes) (l : Lane) : t.lane l = s.lane l := by
  simp only [State.lane, h]

@[simp] theorem State.ports_updPort_same (s : State) (p : PortId) (f : Port → Port) :
    (s.updPort p f).ports[p] = f s.ports[p] := by
  simp [State.updPort]

@[simp] theorem State.ports_updPort_other (s : State) {p q : PortId} (f : Port → Port) (h : q ≠ p) :
    (s.updPort p f).ports[q] = s.ports[q] := by
  simp only [State.updPort]
  exact Vector.getElem_set_ne _ _ (fun e => h (Fin.ext e.symm))

@[simp] theorem State.lane_updPort (s : State) (p : PortId) (f : Port → Port) (l : Lane) :
    (s.updPort p f).lane l = s.lane l := rfl

@[simp] theorem State.updLane_updLane (s : State) (l : Lane) (f g : RxLane → RxLane) :
    (s.updLane l f).updLane l g = s.updLane l fun r => g (f r) := by
  simp [State.updLane, State.lane]

end Sys2Proof.Machine
end

