-- ==== Sys2Proof/Laws/Link.lean ====
section
/-! SUPPORT. What the queues of the cue link do: one frame lemma and one effect lemma for each operation of Link.lean. -/

namespace Sys2Proof.Machine

/-! ## Forwarding (R132, R133) -/

/-- Beginning a forwarding changes the thru transmitter alone. -/
theorem State.beginForward_frame (s : State) :
    s.beginForward = { s with link := { s.link with thruTx := s.beginForward.link.thruTx } } := by
  unfold State.beginForward
  split
  · rfl
  · split <;> rfl

theorem State.beginForward_thruTx (s : State) :
    s.beginForward.link.thruTx =
      match s.link.forwarding with
      | [] => s.link.thruTx
      | f :: _ => if s.link.thruTx.busy || !(s.lane .thru).alive then s.link.thruTx else s.link.thruTx.begin s.now f := by
  unfold State.beginForward
  cases h : s.link.forwarding with
  | nil => rfl
  | cons f rest =>
    simp only
    split <;> rfl

/-- Forwarding changes the forwarding queue and the thru transmitter alone. -/
theorem State.forward_frame (f : Frame) (s : State) :
    s.forward f = { s with link := { s.link with thruTx := (s.forward f).link.thruTx,
                                                 forwarding := (s.forward f).link.forwarding } } := by
  unfold State.forward
  split
  · rw [State.beginForward_frame]
  · rfl

/-- What forwarding does. -/
theorem State.forward_forwarded (f : Frame) (s : State) : State.Forwarded f s (s.forward f) := by
  unfold State.Forwarded State.forward
  by_cases h : (s.lane .thru).alive = true
  · simp only [h, if_true]
    refine ⟨by rw [State.beginForward_frame], ?_⟩
    rw [State.beginForward_thruTx]
    change (match s.link.forwarding ++ [f] with
      | [] => s.link.thruTx
      | g :: _ => if s.link.thruTx.busy || !(s.lane .thru).alive then s.link.thruTx
                  else s.link.thruTx.begin s.now g) = _
    rw [h]
    cases s.link.forwarding <;> simp
  · simp [h]

/-- The end of a forwarding changes the forwarding queue and the thru transmitter alone. -/
theorem State.endForward_frame (s : State) :
    s.endForward = { s with link := { s.link with thruTx := s.endForward.link.thruTx,
                                                  forwarding := s.link.forwarding.tail } } := by
  unfold State.endForward
  rw [State.beginForward_frame]

/-! ## The upstream arbiter (R137) -/

/-- The arbiter changes the upstream transmitter and its mark alone. -/
theorem State.arbitrate_frame (s : State) :
    s.arbitrate = { s with link := { s.link with upTx := s.arbitrate.link.upTx,
                                                 lastServed := s.arbitrate.link.lastServed } } := by
  unfold State.arbitrate
  split
  · rfl
  · split <;> rfl

/-- What the arbiter does, from any state whose queues it finds. -/
theorem State.arbitrate_arbitrated (s : State) : State.Arbitrated (s.lane .upstream).alive s s.arbitrate := by
  unfold State.Arbitrated
  by_cases h : s.link.upTx.busy = true ∨ (s.lane .upstream).alive = false
  · rw [if_pos h]
    have h' : (s.link.upTx.busy || !(s.lane .upstream).alive) = true := by simpa using h
    simp [State.arbitrate, h']
  · rw [if_neg h]
    have h' : (s.link.upTx.busy || !(s.lane .upstream).alive) = false := by
      simp only [not_or, Bool.not_eq_true, Bool.not_eq_false] at h; simp [h.1, h.2]
    have ho : s.arbitrate.link.own = s.link.own := by rw [State.arbitrate_frame]
    have hr : s.arbitrate.link.returns = s.link.returns := by rw [State.arbitrate_frame]
    rw [ho, hr]
    cases e1 : s.link.own <;> cases e2 : s.link.returns <;>
      simp [State.arbitrate, h', Link.choose, e1, e2]
    cases e3 : s.link.lastServed <;> simp

/-- A reply of this unit changes the own-reply queue, the upstream transmitter and the mark alone. -/
theorem State.joinOwn_frame (f : Frame) (s : State) :
    s.joinOwn f = { s with link := { s.link with own := s.link.own ++ [f], upTx := (s.joinOwn f).link.upTx,
                                                 lastServed := (s.joinOwn f).link.lastServed } } := by
  unfold State.joinOwn
  rw [State.arbitrate_frame]

theorem State.joinOwn_arbitrated (f : Frame) (s : State) : State.Arbitrated (s.lane .upstream).alive s (s.joinOwn f) :=
  State.arbitrate_arbitrated { s with link := { s.link with own := s.link.own ++ [f] } }

/-- A returned reply with a place changes the return queue, the upstream transmitter and the mark alone. -/
theorem State.joinReturn_frame (f : Frame) (s : State) (h : s.link.returns.length < 4) :
    s.joinReturn f = { s with link := { s.link with returns := s.link.returns ++ [f], upTx := (s.joinReturn f).link.upTx,
                                                    lastServed := (s.joinReturn f).link.lastServed } } := by
  unfold State.joinReturn
  have h' : s.link.returns.length < Config.replyPlaces := h
  rw [if_pos h', State.arbitrate_frame]

theorem State.joinReturn_arbitrated (f : Frame) (s : State) (h : s.link.returns.length < 4) :
    State.Arbitrated (s.lane .upstream).alive s (s.joinReturn f) := by
  unfold State.joinReturn
  have h' : s.link.returns.length < Config.replyPlaces := h
  rw [if_pos h']
  exact State.arbitrate_arbitrated { s with link := { s.link with returns := s.link.returns ++ [f] } }

/-- A returned reply without a place is counted alone (R134). -/
theorem State.joinReturn_full (f : Frame) (s : State) (h : ¬ s.link.returns.length < 4) :
    s.joinReturn f = s.countReturnDropped := by
  unfold State.joinReturn
  have h' : ¬ s.link.returns.length < Config.replyPlaces := h
  rw [if_neg h']

/-! ## Transmit lanes (R95, R125) -/

@[simp] theorem Transmitter.busy_begin (now : Time) (f : Frame) (t : Transmitter) : (t.begin now f).busy = true := rfl
@[simp] theorem Transmitter.busy_finish (t : Transmitter) : t.finish.busy = false := rfl
@[simp] theorem Transmitter.busy_cut (t : Transmitter) : t.cut.busy = false := by
  unfold Transmitter.cut
  split
  · rfl
  · simp_all
@[simp] theorem Transmitter.busy_settle (t : Transmitter) : t.settle.busy = t.busy := rfl
@[simp] theorem Transmitter.abort_begin (now : Time) (f : Frame) (t : Transmitter) : (t.begin now f).abort = t.abort := rfl

end Sys2Proof.Machine
end

