-- ==== Sys2Proof/Laws/Executor.lean ====
section
/-! SUPPORT. What a batch fault and the report of a discard do. -/

namespace Sys2Proof.Machine

/-- A reply changes the own-reply queue, the upstream transmitter and the mark alone. -/
theorem State.reply_frame (tag : BitVec 8) (results : List Result) (s : State) :
    s.reply tag results =
      { s with link := { s.link with own := s.link.own ++ [replyFrame s.unitAddress tag (payloadOf results)],
                                     upTx := (s.reply tag results).link.upTx,
                                     lastServed := (s.reply tag results).link.lastServed } } := by
  unfold State.reply
  rw [State.joinOwn_frame]

/-- A batch fault changes the counters, the conditions and the upstream replies alone. -/
theorem State.batchFault_frame (st : Status) (tag : BitVec 8) (addr : Addressing) (s : State) :
    s.batchFault st tag addr =
      { s with counters := (s.batchFault st tag addr).counters, conditions := (s.batchFault st tag addr).conditions,
               link := { s.link with own := (s.batchFault st tag addr).link.own,
                                     upTx := (s.batchFault st tag addr).link.upTx,
                                     lastServed := (s.batchFault st tag addr).link.lastServed } } := by
  cases addr with
  | broadcast => rfl
  | unit =>
    by_cases h : s.replyPlace = true
    · have e : s.batchFault st tag .unit = s.countBatchFault.reply tag (loneResult st) := by
        simp only [State.batchFault]
        exact if_pos h
      rw [e, State.reply_frame]
      rfl
    · have e : s.batchFault st tag .unit = s.countBatchFault.countRequestDropped := by
        simp only [State.batchFault]
        exact if_neg h
      rw [e]
      rfl

/-- The report of a discard leaves a part that holds no open batch as it is. -/
theorem State.reportDiscard_closed (s : State) (h : ∀ tag addr start frames, s.executor ≠ .opened tag addr start frames) :
    s.reportDiscard = s := by
  unfold State.reportDiscard
  cases e : s.executor with
  | opened tag addr start frames => exact absurd e (h _ _ _ _)
  | idle => rfl
  | draining _ _ => rfl

/-- The report of a discard breaks an open batch. -/
theorem State.reportDiscard_opened (s : State) (tag : BitVec 8) (addr : Addressing) (start : Time) (frames : List Frame)
    (h : s.executor = .opened tag addr start frames) :
    s.reportDiscard = ({ s with executor := .draining tag addr }).batchFault .batchBroken tag addr := by
  unfold State.reportDiscard
  rw [h]

end Sys2Proof.Machine
end

