-- ==== Sys2Proof/Laws/PerInstr.lean ====
section
/-! SUPPORT. One lemma per command about its syntax. -/

namespace Sys2Proof.Laws.F

/-- A command is ill formed only as a LOCK_LOSS that presents a valid symbol (R124) or as a BAD_FRAME_SYMBOL that presents
a symbol which does not break a frame that way (R126); and a command that presents nothing is well formed. -/
def Statement (c : Instr) : Prop :=
  c.wellFormed = true
  ∨ (∃ l sym, c = .lockLoss l sym ∧ c.stimulus = some (l, sym) ∧ sym.valid = true)
  ∨ (∃ l sym, c = .badFrameSymbol l sym ∧ c.stimulus = some (l, sym) ∧ sym.canBreakFrame = false)

theorem powerOnReset (straps : BitVec 4) : Statement (.powerOnReset straps) := Or.inl rfl

theorem linkAlive (l : Lane) : Statement (.linkAlive l) := Or.inl rfl

theorem lockLoss (l : Lane) (sym : Symbol) : Statement (.lockLoss l sym) := by
  by_cases h : sym.valid = true
  · exact Or.inr (Or.inl ⟨l, sym, rfl, rfl, h⟩)
  · exact Or.inl (by simpa [Instr.wellFormed] using h)

theorem codeError (l : Lane) : Statement (.codeError l) := Or.inl rfl

theorem frameAborted (l : Lane) : Statement (.frameAborted l) := Or.inl rfl

theorem badFrameSymbol (l : Lane) (sym : Symbol) : Statement (.badFrameSymbol l sym) := by
  by_cases h : sym.canBreakFrame = true
  · exact Or.inl h
  · exact Or.inr (Or.inr ⟨l, sym, rfl, rfl, by simpa using h⟩)

theorem frameCheckFailed (l : Lane) : Statement (.frameCheckFailed l) := Or.inl rfl

theorem cueFrame : Statement .cueFrame := Or.inl rfl

theorem thruTransmitEnd : Statement .thruTransmitEnd := Or.inl rfl

theorem sourceTimeoutExpiry : Statement .sourceTimeoutExpiry := Or.inl rfl

theorem requestFrame : Statement .requestFrame := Or.inl rfl

theorem batchTimeout : Statement .batchTimeout := Or.inl rfl

theorem replyFrame : Statement .replyFrame := Or.inl rfl

theorem upstreamTransmitEnd : Statement .upstreamTransmitEnd := Or.inl rfl

theorem paceFrame (p : PortId) : Statement (.paceFrame p) := Or.inl rfl

theorem intervalTimerExpiry (p : PortId) : Statement (.intervalTimerExpiry p) := Or.inl rfl

theorem destTransmissionEnd (p : PortId) : Statement (.destTransmissionEnd p) := Or.inl rfl

theorem symbolTime (l : Lane) (sym : Symbol) : Statement (.symbolTime l sym) := Or.inl rfl

end Sys2Proof.Laws.F
end

