-- ==== Sys2Proof/Laws/Requests.lean ====
section
/-! SUPPORT. What the writes of a batch do to the route table, one lemma for each shared operation. -/

namespace Sys2Proof.Machine

/-- Setting some positions of a vector, each to a value of its own position, sets exactly those. -/
theorem foldl_set_getElem {α : Type} {n : Nat} (l : List (Fin n)) (f : Fin n → α) (v : Vector α n) (j : Fin n) :
    (l.foldl (fun (v : Vector α n) (i : Fin n) => v.set i (f i)) v)[j] = if j ∈ l then f j else v[j] := by
  induction l generalizing v with
  | nil => simp
  | cons i l ih =>
    rw [List.foldl_cons, ih]
    by_cases hj : j ∈ l
    · simp [hj]
    · by_cases hi : j = i
      · subst hi
        simp [hj]
      · have h : i.val ≠ j.val := fun e => hi (Fin.ext e.symm)
        simp only [hj, if_false, List.mem_cons, hi, or_self]
        exact Vector.getElem_set_ne _ _ h

/-- The records after the resets of a batch (R31). -/
theorem Work.settle_record (w : Work) (i : EntryId) :
    w.settle.routes.records[i] =
      if i ∈ w.resets then .resetTo w.state.routes.entries[i].neutral else w.state.routes.records[i] :=
  foldl_set_getElem w.resets (fun i : EntryId => Runtime.resetTo (w.state.routes.entries[i]).neutral)
    w.state.routes.records i

/-- The entries of a window (R34). -/
theorem PortConfig.mem_window_iff (c : PortConfig) (i : EntryId) :
    i ∈ c.window ↔ c.first.toNat ≤ i.val ∧ i.val < c.first.toNat + c.count.toNat := by
  unfold PortConfig.window
  simp only [List.mem_filterMap, List.mem_range]
  constructor
  · rintro ⟨j, hj, h⟩
    split at h
    · cases h
      exact ⟨Nat.le_add_right _ _, Nat.add_lt_add_left hj _⟩
    · cases h
  · rintro ⟨h₁, h₂⟩
    refine ⟨i.val - c.first.toNat, by omega, ?_⟩
    have h : c.first.toNat + (i.val - c.first.toNat) = i.val := by omega
    have h' : c.first.toNat + (i.val - c.first.toNat) < 96 := by omega
    rw [dif_pos h']
    exact congrArg some (Fin.ext h)

/-- One entry written (R31, R149). -/
theorem Work.loadEntry_state (i : EntryId) (e : RouteEntry) (w : Work) :
    (w.loadEntry i e).state =
      { w.state with routes := { w.state.routes with entries := w.state.routes.entries.set i e } } := rfl

/-- A write of entries changes the entries alone. -/
theorem Work.loadEntries_frame (n : Nat) (es : List RouteEntry) (w : Work) :
    (Work.loadEntries n es w).state =
      { w.state with routes := { w.state.routes with entries := (Work.loadEntries n es w).state.routes.entries } } := by
  induction es generalizing n w with
  | nil => rfl
  | cons e es ih =>
    rw [Work.loadEntries, ih]
    split <;> rfl

/-- A read request writes nothing (R147, R148). -/
theorem Work.request_read (k : ReqKind) (b : List Byte) (w w' : Work) (st : Status) (hk : k.isRead = true)
    (h : w.request k b = .ok (st, w')) : w' = w := by
  have read : ∀ x : Except Status Status, w.read x = .ok (st, w') → w' = w := by
    intro x hx
    cases x with
    | error e => cases hx
    | ok s => cases hx; rfl
  cases k <;> first | cases hk; done | exact read (.ok .done) h | exact read _ h

/-- The stages of DELTA and PEAK entries run at a transmitted composition in RUN or HOLD (R53, R57, R111, R115). -/
theorem Scene.emits_iff (sc : Scene) : sc.emits = true ↔ sc.transmitted = true ∧ (sc.mode = .run ∨ sc.mode = .hold) := by
  simp [Scene.emits]

end Sys2Proof.Machine
end

