-- ==== Sys2Proof/Tests/Slice0.lean ====
section
/-! SUPPORT. Tests of the model: the ill-formed commands, examples of each command, and a witness for the premises of every
statement that has some. Each `test_meets_<Name>` names the statement whose premises it meets. -/

-- One theorem at a time: each one elaborated beside the others takes a thread, and its stack, of its own.
set_option Elab.async false

namespace Sys2Proof.Tests

open Sys2Proof Sys2Proof.Machine

/-! ## Small states -/

/-- A unit strapped 3, right after power-on. -/
def unit3 : State := State.powerOn 3

/-- What a command leaves. -/
def after (c : Instr) (s : State) : State :=
  match exec c s with
  | .next t => t
  | .fault _ => s
  | .refused _ => s

/-- A lane is ALIVE with a fault run and a frame in assembly. -/
def up (l : Lane) (run : Nat) (asm : Option Frame) (s : State) : State :=
  s.updLane l fun r => { r with link := .alive run, asm := asm }

/-- A lane is DOWN with an IDLE run. -/
def down (l : Lane) (run : Nat) (s : State) : State := s.updLane l fun r => { r with link := .down run, asm := none }

def cueOf (step : Half) (values : List Cue) : Frame :=
  withCrc ([0x01, 0, 0, BitVec.ofNat 8 (4 + 2 * values.length)] ++ bytes16 step
    ++ [BitVec.ofNat 8 values.length, 0] ++ values.flatMap bytes16)

def requestOf (address tag : Byte) (chain : Bool) (payload : List Byte) : Frame :=
  withCrc ([if chain then 0x82 else 0x02, address, tag, BitVec.ofNat 8 payload.length] ++ payload)

def paceOf (flags : Byte) (latency : Half) : Frame := withCrc ([0x05, 0, 0, 4, flags, 0] ++ bytes16 latency)

def replyOf (tag : Byte) : Frame := withCrc [0x03, 7, tag, 3, 0x08, 0, 0]

/-- A ring of some records, newest first, whose source was last heard of `ago` µs before now. -/
def withRing (n : Nat) (newest : Half) (ago : Nat) (s : State) : State :=
  { s with
    now := 50000
    intake := { s.intake with
      ring := (List.range n).map fun k =>
        { index := 100 - BitVec.ofNat 32 k, step := newest - BitVec.ofNat 16 k, time := 0, values := [7, 9] }
      nextIndex := 101
      ni := 100
      newestStep := newest
      source := .live { at_ := 50000 - BitVec.ofNat 32 ago } } }

/-- A port enabled with a window of two entries and a pacing mode. -/
def enabled (p : PortId) (first : BitVec 8) (pacing : Pacing) (state : PortState) (s : State) : State :=
  s.updPort p fun port =>
    { port with
      cfg := { port.cfg with enable := true, first := first, count := 2, pacing := pacing }
      state := state
      timer := match pacing with
        | .peer => none
        | .timer => some s.now
        | .locked => some s.now }

def frame6 : Frame := requestOf 3 1 false []

/-! ## Ill-formed commands -/

theorem test_lockLoss_of_a_valid_symbol_is_ill_formed :
    (Instr.lockLoss .upstream .idleSym).wellFormed = false ∧ (Instr.lockLoss .thru (.data 0)).wellFormed = false
    ∧ (Instr.lockLoss .upstream .invalid).wellFormed = true ∧ (Instr.lockLoss .thru .noSignal).wellFormed = true := by
  decide

theorem test_badFrameSymbol_of_another_symbol_is_ill_formed :
    (Instr.badFrameSymbol .upstream .endSym).wellFormed = false
    ∧ (Instr.badFrameSymbol .upstream .abortSym).wellFormed = false
    ∧ (Instr.badFrameSymbol .upstream .invalid).wellFormed = false
    ∧ (Instr.badFrameSymbol .upstream .noSignal).wellFormed = false
    ∧ (Instr.badFrameSymbol .upstream .startSym).wellFormed = true := by
  decide

theorem test_an_ill_formed_command_changes_nothing :
    unit3.eventHolds (.lockLoss .upstream .idleSym) = false
    ∧ (up .upstream 15 (some []) unit3).eventHolds (.lockLoss .upstream .idleSym) = false
    ∧ (up .upstream 15 (some []) unit3).eventHolds (.badFrameSymbol .upstream .endSym) = false := by
  decide +kernel

/-! ## Examples of commands -/

theorem test_powerOnReset_samples_straps : (after (.powerOnReset 9) unit3).unitAddress = 9 := by decide

theorem test_linkAlive : ((after (.linkAlive .thru) (down .thru 3 unit3)).lane .thru).link = .alive 0 := by decide +kernel

theorem test_lockLoss :
    ((after (.lockLoss (.output 2) .noSignal) (up (.output 2) 15 none unit3)).lane (.output 2)).link = .down 0
    ∧ (after (.lockLoss (.output 2) .noSignal) (up (.output 2) 15 none unit3)).ports[2].conditions.laneDown = true := by
  decide +kernel

theorem test_codeError :
    ((after (.codeError .thru) (up .thru 3 none unit3)).lane .thru).counters.codeErrors = 1 := by decide +kernel

theorem test_frameAborted :
    ((after (.frameAborted .thru) (up .thru 3 (some [1]) unit3)).lane .thru).counters.abortedFrames = 1
    ∧ (after (.frameAborted .thru) (up .thru 3 (some [1]) unit3)).conditions.linkError = false := by decide +kernel

theorem test_badFrameSymbol :
    ((after (.badFrameSymbol .thru .startSym) (up .thru 0 (some [1]) unit3)).lane .thru).asm = some [] := by decide +kernel

theorem test_frameCheckFailed :
    ((after (.frameCheckFailed .thru) (up .thru 0 (some frame6) unit3)).lane .thru).counters.badFrames = 1 := by
  decide +kernel

theorem test_cueFrame :
    (after .cueFrame (up .upstream 0 (some (cueOf 10 [4, 5])) unit3)).intake.ring =
      [{ index := 1, step := 10, time := 0, values := [4, 5] }] := by decide +kernel

theorem test_requestFrame_reads_the_source :
    ((after .requestFrame (up .upstream 0 (some (requestOf 3 5 false [8, 0])) unit3)).link.own.map fun f =>
      (frameClass f, frameAddress f, frameTag f, (framePayload f).take 3, crc f)) =
      [(some .reply, 3, 5, [8, 0, 17], 0)] := by decide +kernel

theorem test_batchTimeout :
    (after .batchTimeout { unit3 with executor := .opened 5 .broadcast 0 [frame6], now := 10000 }).executor
      = .draining 5 .broadcast := by decide +kernel

theorem test_paceFrame_records_the_latency :
    (after (.paceFrame 4) (up (.output 4) 0 (some (paceOf 0 9300)) unit3)).ports[4].latency = some 9300 := by
  decide +kernel

theorem test_symbolTime_begins_a_frame :
    ((after (.symbolTime .upstream .startSym) (up .upstream 2 none unit3)).lane .upstream).asm = some [] := by
  decide +kernel

theorem test_a_composition_emits_a_frame :
    ((State.compose 0 true (up (.output 0) 0 none (enabled 0 0 .peer .wait (withRing 3 20 500 unit3)))).ports[0].lastFrame.map
      fun d => (d.state, d.targetStep, d.values.length)) = some (.run, 20, 2) := by decide +kernel

theorem test_tick_counts_a_microsecond : unit3.tick.now = 1 := by decide

/-! ## Premises: steps -/

theorem test_meets_EmptyQueueTakesDueEventOrTicks :
    unit3.pending = [] ∧ unit3.dueEvents = []
    ∧ (withRing 1 5 20000 unit3).dueEvents = [.sourceTimeoutExpiry]
    ∧ (withRing 1 5 19999 unit3).dueEvents = []
    ∧ (enabled 2 0 .timer .wait (withRing 1 5 20000 unit3)).dueEvents
        = [.sourceTimeoutExpiry, .intervalTimerExpiry 2] := by decide +kernel

theorem test_meets_CommandIsItsEvent :
    unit3.eventHolds (.codeError .thru) = false
    ∧ (down .thru 3 unit3).eventHolds (.linkAlive .thru) = true
    ∧ (up .thru 15 none unit3).eventHolds (.lockLoss .thru .invalid) = true
    ∧ (up .thru 0 none unit3).eventHolds (.codeError .thru) = true
    ∧ (up .thru 0 (some []) unit3).eventHolds (.frameAborted .thru) = true
    ∧ (up .thru 0 (some []) unit3).eventHolds (.badFrameSymbol .thru .idleSym) = true
    ∧ (up .thru 0 (some []) unit3).eventHolds (.frameCheckFailed .thru) = true
    ∧ (up .upstream 0 (some (cueOf 1 [1])) unit3).eventHolds .cueFrame = true
    ∧ (up .upstream 0 (some frame6) unit3).eventHolds .requestFrame = true
    ∧ (up .thru 0 (some (replyOf 1)) unit3).eventHolds .replyFrame = true
    ∧ (up (.output 5) 0 (some (paceOf 0 1)) unit3).eventHolds (.paceFrame 5) = true := by decide +kernel

theorem test_meets_ConditionSetsAreSevenBytes :
    (List.replicate 7 (0x7F : Byte)).length = 7 ∧ ∀ b ∈ List.replicate 7 (0x7F : Byte), b.getLsbD 7 = false := by decide

/-! ## Premises: cue intake -/

theorem test_meets_FirstCueFrameIsAccepted :
    (up .upstream 0 (some (cueOf 0 [1])) unit3).goodFrame .upstream .cue = some (cueOf 0 [1])
    ∧ (up .upstream 0 (some (cueOf 0 [1])) unit3).intake.source = .absent := by decide +kernel

/-- Distances 1 and 32767, with samples 100, 20000 (taken) and 99 (not taken). -/
theorem test_meets_CueFrameAheadIsAccepted :
    (up .upstream 0 (some (cueOf 6 [1])) (withRing 2 5 100 unit3)).goodFrame .upstream .cue = some (cueOf 6 [1])
    ∧ (up .upstream 0 (some (cueOf 32772 [1])) (withRing 2 5 100 unit3)).goodFrame .upstream .cue = some (cueOf 32772 [1])
    ∧ (withRing 2 5 100 unit3).intake.last = some { at_ := 49900 }
    ∧ (cueStep (cueOf 6 [1]) - (withRing 2 5 100 unit3).intake.newestStep).toNat = 1
    ∧ (cueStep (cueOf 32772 [1]) - (withRing 2 5 100 unit3).intake.newestStep).toNat = 32767
    ∧ ({ at_ := 49900 } : Stamp).elapsed 50000 / 1 = 100 ∧ ({ at_ := 30000 } : Stamp).elapsed 50000 / 1 = 20000
    ∧ ({ at_ := 49901 } : Stamp).elapsed 50000 / 1 = 99 := by decide +kernel

/-- The same step, and distances 32768 and 65535. -/
theorem test_meets_CueFrameBehindIsRefused :
    (up .upstream 0 (some (cueOf 5 [1])) (withRing 2 5 100 unit3)).goodFrame .upstream .cue = some (cueOf 5 [1])
    ∧ (up .upstream 0 (some (cueOf 32773 [1])) (withRing 2 5 100 unit3)).goodFrame .upstream .cue = some (cueOf 32773 [1])
    ∧ cueStep (cueOf 5 [1]) = (withRing 2 5 100 unit3).intake.newestStep
    ∧ (cueStep (cueOf 32773 [1]) - (withRing 2 5 100 unit3).intake.newestStep).toNat = 32768
    ∧ (cueStep (cueOf 4 [1]) - (withRing 2 5 100 unit3).intake.newestStep).toNat = 65535 := by decide +kernel

theorem test_meets_SourceTimeoutMakesSilent :
    (withRing 1 5 20000 unit3).intake.source = .live { at_ := 30000 }
    ∧ (withRing 1 5 20000 unit3).intake.timeout.toNat * 1000
        ≤ ({ at_ := 30000 } : Stamp).elapsed (withRing 1 5 20000 unit3).now := by decide +kernel

theorem test_meets_EstimateMovesWithinItsRange :
    updateE16 1600 100 = 1600 ∧ updateE16 320000 20000 = 320000 ∧ updateE16 16000 99 = 16000
    ∧ updateE16 16000 20001 = 16000 ∧ updateE16 16015 1000 = 16015 ∧ updateE16 16016 1000 = 16015 := by decide +kernel

theorem test_meets_ElapsedTimeIsHeldAtItsGreatest :
    ({ at_ := 0, held := true } : Stamp).held = true
    ∧ ({ at_ := 1 } : Stamp).elapsed 4294967295 = 4294967294
    ∧ (({ at_ := 1 } : Stamp).advance 0).held = true := by decide

/-- A timeout of 20 ms that has run out at the event, and one that has not. -/
theorem test_meets_ConfigureSourceTakesEffect :
    (withRing 1 5 20000 unit3).intake.source = .live { at_ := 30000 }
    ∧ 20 * 1000 ≤ ({ at_ := 30000 } : Stamp).elapsed (withRing 1 5 20000 unit3).now
    ∧ ¬ 21 * 1000 ≤ ({ at_ := 30000 } : Stamp).elapsed (withRing 1 5 20000 unit3).now
    ∧ clampPeriod 99 = 100 ∧ clampPeriod 20001 = 20000 ∧ clampTimeout 1 = 2 ∧ clampTimeout 251 = 250 := by decide +kernel

/-! ## Premises: receive lanes -/

theorem test_meets_CrcLeavesZeroOnAnIntactFrame :
    ([0, 0, 0, 0, 0, 0] : Frame).length = 6 ∧ crc [0, 0, 0, 0, 0, 0] ≠ 0 := by decide +kernel

/-- A frame that fails each check, and good frames at the ends of their ranges. -/
theorem test_meets_FrameChecksRunInOrder :
    checkFrame .upstream [1, 2, 3, 4, 5] = some .size ∧ checkFrame .upstream [1, 2, 3, 4, 5, 6] = some .crc
    ∧ checkFrame .upstream (withCrc [2, 0, 0, 1]) = some .length ∧ checkFrame .thru frame6 = some .cls
    ∧ checkFrame .upstream (requestOf 16 0 false []) = some .content
    ∧ checkFrame .upstream (requestOf 15 0 false []) = none
    ∧ checkFrame .upstream (cueOf 0 []) = some .content ∧ checkFrame .upstream (cueOf 0 [1]) = none
    ∧ contentOk ([1, 0, 0, 100, 0, 0, 48, 0] ++ List.replicate 98 0) .cue = true
    ∧ contentOk ([1, 0, 0, 102, 0, 0, 49, 0] ++ List.replicate 100 0) .cue = false
    ∧ checkFrame .upstream (replyOf 1) = some .cls ∧ checkFrame (.output 5) frame6 = some .cls
    ∧ checkFrame (.output 5) (withCrc [5, 0, 0, 0]) = some .content
    ∧ checkFrame .thru (replyOf 1) = none ∧ checkFrame (.output 5) (paceOf 3 0) = none := by decide +kernel

theorem test_meets_FourthIdleMakesLaneAlive :
    (down .upstream 3 unit3).aliveDue .upstream = true ∧ (down (.output 5) 3 unit3).aliveDue (.output 5) = true
    ∧ (down .thru 2 unit3).aliveDue .thru = false := by decide +kernel

theorem test_meets_SixteenthFaultLosesLock :
    (up .upstream 15 none unit3).lossDue .upstream = true ∧ (up .thru 15 (some []) unit3).lossDue .thru = true
    ∧ (up (.output 0) 15 none unit3).lossDue (.output 0) = true ∧ (up .thru 14 none unit3).lossDue .thru = false := by
  decide +kernel

theorem test_meets_CodeErrorIsCounted :
    ((up .upstream 14 (some []) unit3).lane .upstream).link = .alive 14
    ∧ ((up .upstream 15 none unit3).lane .upstream).link = .alive 15 := by decide +kernel

theorem test_meets_DiscardedFrameIsCountedOnce :
    (up .upstream 0 (some [1]) unit3).inFrame .upstream = some [1]
    ∧ (up .upstream 0 (some (List.replicate 256 0)) unit3).inFrame .upstream = some (List.replicate 256 0)
    ∧ checkFrame .upstream [1] = some .size ∧ checkFrame .upstream (List.replicate 6 0) = some .crc := by decide +kernel

/-- A lane of each kind that SYMBOL_TIME feeds without completing anything. -/
theorem test_meets_SymbolTimeFeedsTheLane :
    ((down .thru 3 unit3).lane .thru).link = .down 3 ∧ ((down .thru 2 unit3).lane .thru).link = .down 2
    ∧ ((up .thru 14 none unit3).lane .thru).link = .alive 14 ∧ ((up .thru 14 none unit3).lane .thru).asm = none
    ∧ Symbol.valid .abortSym = true
    ∧ ((up .thru 0 (some (List.replicate 255 0)) unit3).lane .thru).asm = some (List.replicate 255 0) := by decide +kernel

/-! ## Premises: forwarding and replies -/

/-- A unit with a good reply at its END on the thru lane, and some replies queued for the upstream lane. -/
def returning (n : Nat) (f : Frame) : State :=
  let s := up .thru 0 (some f) unit3
  { s with link := { s.link with returns := List.replicate n (replyOf 2), own := List.replicate n (replyOf 2) } }

/-- A return queue of 3 and of 4 frames, and a frame on the thru lane that fails a check. -/
theorem test_meets_ReplyFrameJoinsTheReturnQueue :
    (returning 3 (replyOf 1)).goodFrame .thru .reply = some (replyOf 1) ∧ (returning 3 (replyOf 1)).link.returns.length < 4
    ∧ (returning 4 (replyOf 1)).goodFrame .thru .reply = some (replyOf 1) ∧ 4 ≤ (returning 4 (replyOf 1)).link.returns.length
    ∧ (returning 0 frame6).inFrame .thru = some frame6 ∧ checkFrame .thru frame6 ≠ none := by decide +kernel

/-- A unit whose two link transmitters have sent their frames at 18, the upstream one from the queue named. -/
def sent (served : Served) : State :=
  { unit3 with now := 18, link := { unit3.link with
      upTx := Transmitter.idle.begin 10 frame6, thruTx := Transmitter.idle.begin 10 frame6, lastServed := served,
      forwarding := [frame6, frame6], own := [frame6], returns := [frame6] } }

theorem test_meets_TransmitEndFreesAPlace :
    (sent .own).link.thruTx.sending = some { bytes := frame6, first := 10, ends := 18 }
    ∧ (sent .own).link.upTx.sending = some { bytes := frame6, first := 10, ends := 18 }
    ∧ (sent .own).link.lastServed = .own ∧ (sent .ret).link.lastServed = .ret
    ∧ (sent .ret).link.upTx.sending = some { bytes := frame6, first := 10, ends := 18 }
    ∧ reached (sent .own).now 18 = true ∧ reached 17 18 = false := by decide +kernel

theorem test_meets_TransmitLaneSendsItsFrame :
    ({ sending := some { bytes := frame6, first := 10, ends := 18 }, abort := false } : Transmitter).symbol 10 = .startSym
    ∧ ({ sending := some { bytes := frame6, first := 10, ends := 18 }, abort := false } : Transmitter).symbol 11 = .data 2
    ∧ ({ sending := some { bytes := frame6, first := 10, ends := 18 }, abort := false } : Transmitter).symbol 17 = .endSym
    ∧ Transmitter.symbol 10 { sending := none, abort := true } = .abortSym := by decide +kernel

/-! ## Premises: management executor -/

/-- A state with a request frame at its END and an executor. -/
def taking (e : Executor) (f : Frame) : State := { up .upstream 0 (some f) unit3 with executor := e }

/-- Idle; open with 1 and with 3 frames; draining the same batch, at its last frame too; draining another one. -/
theorem test_meets_RequestFrameOpensOrExtendsABatch :
    (∀ e ∈ [Executor.idle, .opened 1 .unit 0 [frame6], .opened 1 .unit 0 [frame6, frame6, frame6], .draining 1 .unit,
            .draining 1 .broadcast, .draining 2 .unit],
      (taking e (requestOf 3 1 true [])).goodFrame .upstream .request = some (requestOf 3 1 true [])
      ∧ (taking e (requestOf 3 1 true [])).addressing (frameAddress (requestOf 3 1 true [])) = some .unit
      ∧ (taking e (requestOf 3 1 true [])).executor = e)
    ∧ frameChain (requestOf 3 1 true []) = true ∧ frameTag (requestOf 3 1 true []) = 1
    ∧ (taking (.draining 1 .broadcast) (requestOf 15 1 false [])).goodFrame .upstream .request
        = some (requestOf 15 1 false [])
    ∧ (taking (.draining 1 .broadcast) (requestOf 15 1 false [])).addressing (frameAddress (requestOf 15 1 false []))
        = some .broadcast
    ∧ frameTag (requestOf 15 1 false []) = 1 ∧ frameChain (requestOf 15 1 false []) = false := by decide +kernel

theorem test_meets_RequestForAnotherUnitIsForwarded :
    (taking .idle (requestOf 4 1 false [])).goodFrame .upstream .request = some (requestOf 4 1 false [])
    ∧ unit3.addressing (frameAddress (requestOf 4 1 false [])) = none
    ∧ (State.powerOn 15).addressing 15 = some .broadcast ∧ unit3.addressing 14 = none ∧ unit3.addressing 3 = some .unit := by
  decide +kernel

theorem test_meets_BatchFaultIsCountedAndAnswered :
    ({ taking (.opened 1 .unit 0 [frame6]) frame6 with now := 10000 } : State).executor = .opened 1 .unit 0 [frame6]
    ∧ 10000 ≤ since 10000 0 ∧ ¬ 10000 ≤ since 9999 0
    ∧ (taking (.opened 1 .unit 0 [frame6, frame6, frame6, frame6]) frame6).goodFrame .upstream .request = some frame6
    ∧ (taking (.opened 1 .unit 0 [frame6, frame6, frame6, frame6]) frame6).addressing (frameAddress frame6) = some .unit
    ∧ (taking (.opened 1 .unit 0 [frame6, frame6, frame6, frame6]) frame6).executor
        = .opened (frameTag frame6) .unit 0 [frame6, frame6, frame6, frame6]
    ∧ (taking (.opened 2 .unit 0 [frame6]) (requestOf 3 1 true [])).goodFrame .upstream .request
        = some (requestOf 3 1 true [])
    ∧ (taking (.opened 2 .unit 0 [frame6]) (requestOf 3 1 true [])).addressing (frameAddress (requestOf 3 1 true []))
        = some .unit
    ∧ (taking (.opened 2 .unit 0 [frame6]) (requestOf 3 1 true [])).executor = .opened 2 .unit 0 [frame6]
    ∧ ¬ ((2 : BitVec 8) = frameTag (requestOf 3 1 true []) ∧ Addressing.unit = .unit)
    ∧ frameChain (requestOf 3 1 true []) = true := by decide +kernel

/-- Idle; an open batch of 1 and of 3 frames; draining another batch; an open batch of another tag; and a full own queue. -/
theorem test_meets_RequestFrameClosesABatch :
    (∀ e ∈ [Executor.idle, .opened 1 .unit 0 [frame6], .opened 1 .unit 0 [frame6, frame6, frame6], .draining 2 .unit,
            .opened 2 .unit 0 [frame6]],
      (taking e frame6).goodFrame .upstream .request = some frame6
      ∧ (taking e frame6).addressing (frameAddress frame6) = some .unit ∧ (taking e frame6).executor = e
      ∧ (taking e frame6).link.own.length < 4)
    ∧ frameChain frame6 = false ∧ frameTag frame6 = 1 ∧ framePayload frame6 = []
    ∧ 4 ≤ (returning 4 frame6).link.own.length := by decide +kernel

/-- A batch that is refused, one that is applied, and one whose reply is too long. -/
theorem test_meets_ClosedBatchIsAppliedWholeOrNotAtAll :
    unit3.link.own.length < 4
    ∧ (unit3.runBatch [requestOf 3 1 false [4, 1, 9]]).2.isNone = true
    ∧ (unit3.runBatch [requestOf 3 1 false [8, 0]]).2.isSome = true
    ∧ (payloadOf (unit3.runBatch [requestOf 3 1 false [8, 0]]).1).length ≤ 250
    ∧ 250 < (payloadOf (unit3.runBatch [requestOf 3 1 false [2, 2, 0, 10]]).1).length := by decide +kernel

/-- The work on a batch at its start. -/
def work3 : Work := { state := unit3, resets := [] }

/-- A status or a refusal, without the work. -/
def outcomeOf (x : Except Status (Status × Work)) : Except Status Status := x.map Prod.fst

/-- Each way a request is taken: refused at decoding, in its place, by its checks, and passed. -/
theorem test_meets_ClosedBatchIsAppliedWholeOrNotAtAll_requests :
    outcomeOf (work3.take false true { code := 0, body := none }) = .error .badRequest
    ∧ ({ code := 8, body := some [1] } : RawRequest).decode = none
    ∧ ({ code := 8, body := some [] } : RawRequest).decode = some (.readSource, [])
    ∧ outcomeOf (work3.take true true { code := 8, body := some [] }) = .error .readInBatch
    ∧ outcomeOf (work3.take false false { code := 13, body := some [0] }) = .error .resetNotAlone
    ∧ outcomeOf (work3.take false true { code := 13, body := some [3] }) = .error .badValue
    ∧ outcomeOf (work3.take true false { code := 7, body := some [3, 232, 20] }) = .ok .done
    ∧ (unit3.runBatch [requestOf 3 1 false [8, 0, 4, 1, 9, 8, 0]]).1.map (fun r => (r.code, r.status)) =
        [(8, .notApplied), (4, .badIndex), (8, .notApplied)] := by decide +kernel

theorem test_meets_ReadsLeaveTheStateAndKeepTheirLengths :
    checkReadRoutes [0, 12] = .ok .done ∧ checkReadRoutes [95, 1] = .ok .done ∧ ([7] : List Byte).getD 0 0 = 7
    ∧ (withRing 2 5 100 unit3).intake.ring[1]? = some { index := 99, step := 4, time := 0, values := [7, 9] }
    ∧ checkCounters [0, 9, 1] = .ok (.link, true) ∧ checkCounters [1, 9, 0] = .ok (.part, false)
    ∧ checkCounters [2, 5, 1] = .ok (.port 5, true) ∧ checkCounters [2, 6, 1] = .error .badIndex
    ∧ checkCounters [3, 0, 0] = .error .badValue ∧ checkCounters [0, 0, 2] = .error .badValue ∧ ReqKind.isRead .readPort = true := by decide +kernel

theorem test_meets_ConfigurePortEnablesAndDisables :
    Port.powerOn.cfg.enable = false ∧ (enabled 0 0 .timer .run unit3).ports[0].cfg.enable = true
    ∧ (enabled 0 0 .timer .run unit3).ports[0].cfg.pacing = .timer
    ∧ (enabled 0 0 .peer .run unit3).ports[0].cfg.pacing = .peer := by decide +kernel

/-- A unit whose port 5 is enabled over the entries 94 and 95. -/
def holding : State := enabled 5 94 .peer .wait unit3

/-- The body of a Configure Port that enables port 0 over a window. -/
def portBody (first count : Byte) : List Byte := [0, 1, 2, first, count, 0, 7, 7, 0, 1, 0, 0, 0, 0, 10, 1, 0]

/-- Each refusal of R153 at the end of its range, the adjustments, and the entries that enter. -/
theorem test_meets_ConfigurePortEnablesAndDisables_checks :
    (holding.checkPort (portBody 70 24)).map (fun x => x.2.2) = .ok false
    ∧ (holding.checkPort (portBody 70 25)).map (fun x => x.2.2) = .error .windowTooLong
    ∧ (holding.checkPort (portBody 71 24)).map (fun x => x.2.2) = .error .windowOverlap
    ∧ (holding.checkPort (portBody 73 24)).map (fun x => x.2.2) = .error .badIndex
    ∧ (holding.checkPort (portBody 96 0)).map (fun x => x.2.2) = .error .badIndex
    ∧ (holding.checkPort (portBody 95 0)).map (fun x => x.2.2) = .ok false
    ∧ (holding.checkPort ((portBody 70 24).set 0 6)).map (fun x => x.2.2) = .error .badIndex
    ∧ (holding.checkPort ((portBody 70 24).set 6 8)).map (fun x => x.2.2) = .error .badValue
    ∧ (holding.checkPort ((portBody 70 24).set 9 17)).map (fun x => x.2.1.scale) = .ok 16
    ∧ decodeConfig ((portBody 70 24).set 1 2) = none
    ∧ holding.ports[5].cfg.entering { holding.ports[5].cfg with first := 93 } = [93] := by decide +kernel

/-- An entry with its fields at their ends, and port configurations at theirs. -/
def fullEntry : RouteEntry :=
  { source := .slot 47, constant := 0x8000, kind := .level, window := .w8, invert := true, mirrorSensitive := true,
    gain := 255, curve := some 7, lo := 0x8000, hi := 0x7FFF, neutral := 0x7FFF, slew := 32767 }

theorem test_meets_EntryAndPortBytesReadBack :
    fullEntry.Valid ∧ RouteEntry.powerOn.Valid ∧ PortConfig.powerOn.Valid
    ∧ ({ PortConfig.powerOn with first := 72, count := 24, k := 0, n := 15, scale := 16, manualLag := 48,
                                 fadeStep := 32767 } : PortConfig).Valid := by decide +kernel

/-- The bytes of an entry with a byte replaced. -/
def entryWith (i : Nat) (b : Byte) : List Byte := fullEntry.bytes.set i b

/-- Entries refused and adjusted, and loads of entries and of a curve. -/
theorem test_meets_EntryAndPortBytesReadBack_loads :
    (checkEntry (entryWith 0 48)).map Prod.snd = .error .badValue ∧ (checkEntry (entryWith 4 3)).map Prod.snd = .error .badValue
    ∧ (checkEntry (entryWith 7 8)).map Prod.snd = .error .badValue
    ∧ (checkEntry (entryWith 14 128)).map Prod.snd = .error .badValue
    ∧ (checkEntry (entryWith 10 127)).map Prod.snd = .ok false
    ∧ (checkEntry (entryWith 10 126)).map Prod.snd = .error .badLimits
    ∧ (checkEntry (entryWith 3 1)).map Prod.snd = .ok true ∧ (checkEntry (entryWith 0 255)).map Prod.snd = .ok false
    ∧ outcomeOf (work3.request .loadRoutes ([95, 1] ++ fullEntry.bytes)) = .ok .done
    ∧ outcomeOf (work3.request .loadRoutes ([94, 2] ++ fullEntry.bytes ++ entryWith 3 2)) = .ok .adjusted
    ∧ outcomeOf (work3.request .loadRoutes ([94, 2] ++ fullEntry.bytes ++ entryWith 3 3)) = .error .badValue
    ∧ outcomeOf (work3.request .loadRoutes ([95, 2] ++ fullEntry.bytes ++ fullEntry.bytes)) = .error .badIndex
    ∧ outcomeOf (work3.request .loadRoutes [0, 0]) = .error .badValue
    ∧ outcomeOf (work3.request .loadCurve ([7] ++ List.replicate 18 0)) = .ok .done
    ∧ outcomeOf (work3.request .loadCurve ([8] ++ List.replicate 18 0)) = .error .badIndex := by decide +kernel

/-! ## Premises: stages -/

theorem test_meets_SignStageNegates :
    signStage true 32767 = (-32767, false) ∧ signStage true (-32767) = (32767, false) ∧ signStage true (-32768) = (32767, true)
    ∧ signStage false (-32768) = (-32768, false) ∧ fullEntry.negates false = true ∧ fullEntry.negates true = false := by
  decide +kernel

theorem test_meets_GainStageDividesBy256 :
    gainStage 255 16 32767 = (32767, true) ∧ gainStage 255 16 (-32768) = (-32768, true)
    ∧ gainStage 16 16 (-32768) = (-32768, false) ∧ gainStage 0 16 32767 = (0, false) ∧ gainStage 1 1 (-255) = (0, false) := by
  decide +kernel

theorem test_meets_CurveStageInterpolates :
    curveStage (some Curve.powerOn) (-32768) = -32768 ∧ curveStage (some Curve.powerOn) 24576 = 24576
    ∧ curveStage (some Curve.powerOn) 24577 = 24576 ∧ curveStage (some Curve.powerOn) 32767 = 32766
    ∧ fullEntry.curve = some 7 ∧ RouteEntry.powerOn.curve = none := by decide +kernel

/-- A scene that runs the stages on three frames, and one that does not. -/
def sceneOf (mode : Mode) (transmitted : Bool) : Scene :=
  { mode := mode, transmitted := transmitted, ring := (withRing 3 20 500 unit3).intake.ring, targetAge := 0,
    span := (withRing 3 20 500 unit3).intake.ring.reverse, mirror := false, scale := 2, fadeStep := 256,
    curves := unit3.routes.curves }

/-- An entry of a kind that reads slot 1 with gain 128 and scale 2. -/
def entryOf (kind : Kind) : RouteEntry := { RouteEntry.powerOn with source := .slot 1, kind := kind, gain := 128 }

theorem test_meets_ClampStageGivesTheOutput :
    (sceneOf .run true).emits = true ∧ (entryOf .delta).lo.toInt ≤ (entryOf .delta).hi.toInt
    ∧ (entryOf .delta).kind = .delta ∧ (entryOf .peak).kind = .peak ∧ (entryOf .level).kind = .level
    ∧ (sceneOf .run true).mode = .run
    ∧ (entryOf .level).levelSource (sceneOf .run true).ring (sceneOf .run true).targetAge = some 9
    ∧ ((entryOf .delta).compose (sceneOf .run true) (.resetTo 0)).value = 27
    ∧ ((entryOf .peak).compose (sceneOf .run true) (.resetTo 0)).value = 9 := by decide +kernel

theorem test_meets_SlewStageLimitsTheStep :
    fullEntry.slew ≠ 0 ∧ RouteEntry.powerOn.slew = 0 ∧ fullEntry.Valid ∧ fullEntry.kind = .level
    ∧ fullEntry.lo.toInt ≤ -32768 ∧ 32767 ≤ fullEntry.hi.toInt ∧ fullEntry.slewStage (-32768) 32767 = -1
    ∧ (sceneOf .run false).mode = .run
    ∧ fullEntry.levelSource (sceneOf .run false).ring (sceneOf .run false).targetAge = none := by decide +kernel

theorem test_meets_LevelSourceAveragesItsFrames :
    (entryOf .level).source = .slot 1 ∧ (entryOf .level).levelSource [] 0 = none
    ∧ (entryOf .level).levelSource [{ index := 2, step := 2, time := 0, values := [1] },
        { index := 1, step := 1, time := 0, values := [1, -5] }] 0 = some (-5)
    ∧ ({ fullEntry with source := .constant } : RouteEntry).levelSource (sceneOf .run true).ring 2 = some (-32768)
    ∧ 2 < (sceneOf .run true).ring.length := by decide +kernel

theorem test_meets_DeltaConservesItsTotal :
    (entryOf .delta).kind = .delta ∧ (sceneOf .run true).emits = true ∧ (sceneOf .run false).emits = false
    ∧ (sceneOf .hold true).emits = true ∧ (sceneOf .settle true).emits = false
    ∧ ((entryOf .delta).compose (sceneOf .run false) { residue := 1073741824, last := 0, carry := none }).limited = true := by
  decide +kernel

theorem test_meets_PeakKeepsTheGreatestCandidate :
    (entryOf .peak).kind = .peak ∧ peakOf [500, -500] = some 500 ∧ peakOf [32767, -32768] = some (-32768)
    ∧ ((entryOf .peak).compose (sceneOf .run false) { residue := 0, last := 0, carry := some (-9) }).record.carry
        = some (-9) := by decide +kernel

theorem test_meets_FadeStepMovesTowardNeutral :
    fullEntry.Valid ∧ fullEntry.kind = .level ∧ (sceneOf .fadeStep true).mode = .fadeStep
    ∧ fullEntry.lo.toInt ≤ -32768 ∧ -32768 ≤ fullEntry.hi.toInt
    ∧ fullEntry.fade 256 32511 = 32767 ∧ fullEntry.fade 256 32510 = 32766
    ∧ (sceneOf .hold true).mode = .hold ∧ (sceneOf .settle false).mode = .settle
    ∧ (fullEntry.compose (sceneOf .hold true) (.resetTo 5)).value = 5
    ∧ (fullEntry.compose (sceneOf .settle false) (.resetTo 5)).value = 0x7FFF := by decide +kernel

/-- A state whose source has been SILENT for an age. -/
def silentFor (age : Nat) (s : State) : State :=
  { s with intake := { s.intake with
      source := .silent { at_ := 0 } { at_ := s.now - BitVec.ofNat 32 age } } }

/-- At the hold limit of 100 ms, at 1 µs less, and with a source that is not SILENT. -/
theorem test_meets_DegradedStateByRoleAndAge :
    (withRing 3 20 500 unit3).intake.source = .live { at_ := 49500 }
    ∧ (silentFor 100000 (withRing 3 20 500 unit3)).silenceAge = some 100000
    ∧ (silentFor 99999 (withRing 3 20 500 unit3)).silenceAge = some 99999
    ∧ PortConfig.powerOn.holdTime.toNat * 10000 = 100000
    ∧ ({ PortConfig.powerOn with role := .cab } : PortConfig).modeAt (some 100000) = .fadeStep
    ∧ ({ PortConfig.powerOn with role := .cab } : PortConfig).modeAt (some 99999) = .hold
    ∧ ({ PortConfig.powerOn with role := .sound } : PortConfig).modeAt (some 100000) = .settle := by decide +kernel

/-! ## Premises: compositions -/

/-- A port that has started, beside a ring of 3 records, on an ALIVE lane. -/
def started (pacing : Pacing) : State :=
  (up (.output 0) 0 none (enabled 0 0 pacing .run (withRing 3 20 500 unit3))).updPort 0 fun port =>
    { port with consumed := some 97 }

theorem test_meets_CompositionPlansItsSpan :
    (started .peer).IntakeGood ∧ (started .peer).intake.ring ≠ [] ∧ (started .peer).ports[0].state = .run
    ∧ ((started .peer).plan 0).markAge = 3 ∧ (enabled 0 0 .peer .wait (started .peer)).ports[0].state = .wait := by
  decide +kernel

theorem test_meets_TargetLagAlignsTheSlowestBoard :
    ((started .peer).ports[0].cfg.lagMode = .manual)
    ∧ (let s := (started .peer).updPort 0 fun port =>
          { port with cfg := { port.cfg with lagMode := .auto }, latency := some 1000 }
       let t := s.updPort 1 fun port => { port with cfg := { port.cfg with enable := true }, latency := some 50500 }
       t.ports[0].cfg.lagMode = .auto ∧ t.ports[0].latency = some 1000 ∧ t.ports[1].cfg.enable = true
         ∧ t.ports[1].latency = some 50500 ∧ s.targetLag 0 = (0, false) ∧ t.targetLag 0 = (48, true)) := by
  decide +kernel

theorem test_meets_EffectiveLagWalksToItsTarget :
    (started .peer).ports[0].state ≠ .wait ∧ (started .peer).ports[0].lag = 0
    ∧ (((started .peer).updPort 0 fun port => { port with lag := 2 }).plan 0).lag = 1 := by decide +kernel

theorem test_meets_ComposingPortConsumesItsSpan :
    (started .peer).ports[0].cfg.enable = true ∧ ((started .peer).lane (.output 0)).alive = true
    ∧ (started .peer).intake.ring ≠ [] ∧ ((started .peer).compose 0 true).ports[0].consumed = some 100 := by decide +kernel

/-- A port in WAIT beside an empty ring, on an ALIVE lane. -/
def waiting : State := up (.output 0) 0 none (enabled 0 94 .peer .wait unit3)

theorem test_meets_ComposingPortWaitsOnAnEmptyRing :
    waiting.ports[0].cfg.enable = true ∧ (waiting.lane (.output 0)).alive = true ∧ waiting.intake.ring = []
    ∧ waiting.ports[0].cfg.window = [94, 95] := by decide +kernel

theorem test_meets_RepeatResendsTheLastFrame :
    waiting.ports[0].cfg.enable = true ∧ (waiting.lane (.output 0)).alive = true ∧ waiting.ports[0].lastFrame = none
    ∧ (waiting.compose 0 true).ports[0].cfg.enable = true ∧ ((waiting.compose 0 true).lane (.output 0)).alive = true
    ∧ (waiting.compose 0 true).ports[0].lastFrame.isSome = true := by decide +kernel

/-- The same port with an inverted entry 0 of gain 255 that reads the constant -32768. -/
def inverted : State :=
  { started .peer with routes := { (started .peer).routes with
      entries := (started .peer).routes.entries.set 0
        { fullEntry with source := .constant, mirrorSensitive := false } } }

/-- The stages run on -32768, which the sign stage negates and the gain stage clamps. -/
theorem test_meets_SignStageNegates_and_GainStageDividesBy256_flags :
    (0 : EntryId) ∈ inverted.ports[0].cfg.window
    ∧ inverted.routes.entries[(0 : EntryId)].StagesRunOn (inverted.scene 0 true) inverted.routes.records[(0 : EntryId)] (-32768)
    ∧ inverted.routes.entries[(0 : EntryId)].negates inverted.ports[0].cfg.mirror = true
    ∧ (entryOf .delta).StagesRunOn (sceneOf .hold true) (.resetTo 0) 27
    ∧ (entryOf .peak).StagesRunOn (sceneOf .run true) (.resetTo 0) 9
    ∧ (gainStage 255 16 (signStage false 32767).1).2 = true
    ∧ (∀ v, ¬ (entryOf .peak).StagesRunOn (sceneOf .run false) (.resetTo 0) v) := by
  refine ⟨by decide +kernel, ⟨by decide +kernel, by decide +kernel⟩, by decide +kernel,
    ⟨rfl, Or.inr rfl, by decide +kernel⟩, ⟨rfl, Or.inl rfl, by decide +kernel⟩, by decide +kernel, ?_⟩
  intro v h
  exact absurd h.1 (by decide)

/-- A SILENT source beside frames in the ring, and a LIVE one. -/
theorem test_meets_ComposingPortConsumesItsSpan_modes :
    (silentFor 100000 (started .peer)).intake.source = .silent { at_ := 0 } { at_ := 50000 - 100000 }
    ∧ (started .peer).intake.source = .live { at_ := 49500 } ∧ (silentFor 100000 (started .peer)).intake.ring ≠ [] := by
  decide +kernel

/-! ## Premises: events of a port -/

/-- The same port with a PACE frame at its END. -/
def paced (pacing : Pacing) (flags : Byte) : State := up (.output 0) 0 (some (paceOf flags 0xFFFF)) (started pacing)

/-- Every mode and pair of flags that the statement tells apart, with the transmitter idle and sending. -/
theorem test_meets_PaceFrameIsTakenByModeAndFlags :
    (∀ flags ∈ [(0 : Byte), 1, 2, 3], ∀ mode ∈ [Pacing.peer, .timer, .locked],
      (paced mode flags).goodFrame (.output 0) .pace = some (paceOf flags 0xFFFF)
      ∧ (paced mode flags).ports[0].cfg.enable = true ∧ (paced mode flags).ports[0].cfg.pacing = mode)
    ∧ (∀ flags ∈ [(0 : Byte), 1, 2, 3], (paceOf flags 0xFFFF).getD 4 0 = flags)
    ∧ be16 (paceOf 3 0xFFFF) 6 = 0xFFFF ∧ be16 (paceOf 3 0xFFFE) 6 = 0xFFFE
    ∧ (paced .peer 3).ports[0].tx.busy = false
    ∧ ((paced .peer 3).compose 0 true).ports[0].tx.busy = true
    ∧ ((paced .peer 3).compose 0 true).goodFrame (.output 0) .pace = some (paceOf 3 0xFFFF)
    ∧ (up (.output 1) 0 (some (paceOf 3 5)) unit3).goodFrame (.output 1) .pace = some (paceOf 3 5)
    ∧ unit3.ports[1].cfg.enable = false := by decide +kernel

theorem test_meets_TimerExpiryComposesOrOverruns :
    (started .timer).ports[0].timer = some 50000 ∧ reached (started .timer).now 50000 = true
    ∧ ((started .timer).lane (.output 0)).alive = true ∧ (started .timer).ports[0].tx.busy = false
    ∧ ((started .timer).compose 0 true).ports[0].tx.busy = true
    ∧ ((down (.output 0) 0 (started .timer)).lane (.output 0)).alive = false := by decide +kernel

/-- A port whose transmission of 18 bytes ends now, with a mark or without one. -/
def ending (mark : Option PaceMark) : State :=
  { (started .peer).updPort 0 fun port => { port with tx := port.tx.begin 50000 (List.replicate 18 0), mark := mark } with
    now := 50020 }

theorem test_meets_TransmissionEndTakesThePendingMark :
    (∀ m ∈ [none, some PaceMark.wantAdvance, some PaceMark.want],
      (ending m).ports[0].tx.sending = some { bytes := List.replicate 18 0, first := 50000, ends := 50020 }
      ∧ (ending m).ports[0].mark = m)
    ∧ reached (ending none).now 50020 = true ∧ reached 50019 50020 = false := by decide +kernel

/-! ## Premises: invariants -/

/-- The invariants hold in a state that is not the reset state: two enabled ports, one of them sending, an open batch, a
ring of three records. -/
def running : State :=
  { up .thru 0 none (up .upstream 0 none (enabled 1 2 .timer .wait ((started .peer).compose 0 true))) with
    executor := .opened 1 .unit 0 [frame6] }

theorem test_meets_StepKeepsIntakeGood : running.IntakeGood := by decide +kernel
theorem test_meets_StepKeepsRoutesGood : running.RoutesGood := by decide +kernel
theorem test_meets_StepKeepsPortsGood : running.PortsGood := by decide +kernel
theorem test_meets_StepKeepsWindowsDisjoint :
    running.WindowsDisjoint ∧ running.ports[0].enabled = true ∧ running.ports[1].enabled = true
    ∧ running.ports[0].cfg.window = [0, 1] ∧ running.ports[1].cfg.window = [2, 3] := by decide +kernel
theorem test_meets_StepKeepsLinkGood : running.LinkGood := by decide +kernel
theorem test_meets_StepKeepsExecutorGood : running.ExecutorGood := by decide +kernel

end Sys2Proof.Tests
end

/-! # Cue frames (chapter 01): the END of a good CUE frame, and the frame the step test refuses -/

namespace Sys2Proof.Machine

/-! ## The END of a frame (R124, R126) -/

/-- The END of a frame changes the receive lanes alone. -/
theorem State.endFrame_frame (l : Lane) (s : State) :
    s.endFrame l = { s with link := { s.link with lanes := (s.endFrame l).link.lanes } } := rfl

theorem State.endFrame_eq_updLane (l : Lane) (s : State) :
    s.endFrame l = s.updLane l fun r => { r with link := .alive 0, asm := none } := by
  unfold State.endFrame State.setLink State.setAsm
  rw [State.updLane_updLane]

@[simp] theorem State.lane_endFrame_same (l : Lane) (s : State) :
    (s.endFrame l).lane l = { s.lane l with link := .alive 0, asm := none } := by
  rw [State.endFrame_eq_updLane, State.lane_updLane_same]

@[simp] theorem State.lane_endFrame_other (s : State) {l m : Lane} (h : m ≠ l) :
    (s.endFrame l).lane m = s.lane m := by
  rw [State.endFrame_eq_updLane, State.lane_updLane_other s _ h]

/-- A state with the receive lanes that the END of a frame leaves has taken that frame. -/
theorem State.frameTaken_of_lanes {l : Lane} {s t : State} (h : t.link.lanes = (s.endFrame l).link.lanes) :
    State.FrameTaken l s t := by
  refine ⟨?_, fun m hm => ?_⟩
  · rw [State.lane_congr h, State.lane_endFrame_same]
  · rw [State.lane_congr h, State.lane_endFrame_other s hm]

/-- Forwarding reads the timebase, the thru pair and the forwarding queue alone. -/
theorem State.Forwarded.of_agree {f : Frame} {s u t : State} (h : State.Forwarded f u t) (hnow : u.now = s.now)
    (hlane : u.lane .thru = s.lane .thru) (htx : u.link.thruTx = s.link.thruTx)
    (hqueue : u.link.forwarding = s.link.forwarding) : State.Forwarded f s t := by
  unfold State.Forwarded at h ⊢
  rwa [hnow, hlane, htx, hqueue] at h

/-! ## The intake's part of a CUE frame (R2 to R6): the first frame, a frame accepted and a frame refused -/

theorem State.takeCueIntake_of_absent {f : Frame} {s : State} (hlast : s.intake.last = none) :
    s.takeCueIntake f = ({ s with intake := s.intake.accept s.now f none } : State).countCueAccepted := by
  unfold Intake.last at hlast
  unfold State.takeCueIntake
  cases hsource : s.intake.source with
  | absent => rfl
  | live t => simp [hsource] at hlast
  | silent t u => simp [hsource] at hlast

/-- The state in which a frame accepted at a step distance has been counted, before its gap is (R4, R5, R16). -/
def State.acceptedAt (f : Frame) (last : Stamp) (s : State) : State :=
  ({ s with intake := s.intake.accept s.now f (some (samplePeriod (last.elapsed s.now) (s.intake.distance f))) }
    : State).countCueAccepted

theorem State.takeCueIntake_of_accepted {f : Frame} {s : State} {last : Stamp} (hlast : s.intake.last = some last)
    (hstep : stepAccepted (s.intake.distance f) = true) :
    s.takeCueIntake f =
      if 1 < s.intake.distance f then (s.acceptedAt f last).countGap (s.intake.distance f - 1)
      else s.acceptedAt f last := by
  unfold Intake.last at hlast
  unfold State.takeCueIntake
  cases hsource : s.intake.source with
  | absent => simp [hsource] at hlast
  | live t =>
    obtain rfl : t = last := by simpa [hsource] using hlast
    exact if_pos hstep
  | silent t u =>
    obtain rfl : t = last := by simpa [hsource] using hlast
    exact if_pos hstep

/-- A frame that fails the step test does nothing in the intake but its report (R6). -/
theorem State.takeCueIntake_of_refused {f : Frame} {s : State} {last : Stamp} (hlast : s.intake.last = some last)
    (hstep : stepAccepted (s.intake.distance f) = false) : s.takeCueIntake f = s.countStepStale := by
  unfold Intake.last at hlast
  unfold State.takeCueIntake
  cases hsource : s.intake.source with
  | absent => simp [hsource] at hlast
  | live t => simp [hstep]
  | silent t u => simp [hstep]

/-- The intake's part of a CUE frame does not read the link interface, and keeps all but the intake and its reports. -/
theorem State.takeCueIntake_setLink (f : Frame) (k : Link) (s : State) :
    ({ s with link := k } : State).takeCueIntake f =
      { s with link := k, intake := (s.takeCueIntake f).intake, counters := (s.takeCueIntake f).counters,
               conditions := (s.takeCueIntake f).conditions } := by
  cases hlast : s.intake.last with
  | none =>
    rw [State.takeCueIntake_of_absent hlast, State.takeCueIntake_of_absent (s := { s with link := k }) hlast]
    rfl
  | some last =>
    cases hstep : stepAccepted (s.intake.distance f) with
    | true =>
      rw [State.takeCueIntake_of_accepted hlast hstep,
        State.takeCueIntake_of_accepted (s := { s with link := k }) hlast hstep]
      by_cases hgap : 1 < s.intake.distance f
      · rw [if_pos hgap, if_pos hgap]; rfl
      · rw [if_neg hgap, if_neg hgap]; rfl
    | false =>
      rw [State.takeCueIntake_of_refused hlast hstep,
        State.takeCueIntake_of_refused (s := { s with link := k }) hlast hstep]
      rfl

theorem State.takeCueIntake_frame (f : Frame) (s : State) :
    s.takeCueIntake f =
      { s with intake := (s.takeCueIntake f).intake, counters := (s.takeCueIntake f).counters,
               conditions := (s.takeCueIntake f).conditions } :=
  State.takeCueIntake_setLink f s.link s

@[simp] theorem State.takeCueIntake_link (f : Frame) (s : State) : (s.takeCueIntake f).link = s.link := by
  rw [State.takeCueIntake_frame]

@[simp] theorem State.takeCueIntake_now (f : Frame) (s : State) : (s.takeCueIntake f).now = s.now := by
  rw [State.takeCueIntake_frame]

/-- The step test refuses the newest step again, and every step half the circle or more ahead of it (R2). -/
theorem Intake.stepAccepted_distance_eq_false {i : Intake} {f : Frame}
    (h : cueStep f = i.newestStep ∨ 32768 ≤ (cueStep f - i.newestStep).toNat) :
    stepAccepted (i.distance f) = false := by
  unfold stepAccepted Intake.distance
  rcases h with hsame | hbehind
  · simp [hsame]
  · have hfar : ¬ (cueStep f - i.newestStep).toNat ≤ 32767 := by omega
    rw [decide_eq_false hfar, Bool.and_false]

/-! ## CUE_FRAME (R1, R132) -/

/-- Beside the intake's part, a CUE frame changes the forwarding queue and the thru transmitter alone. -/
theorem State.takeCue_frame (f : Frame) (s : State) :
    s.takeCue f = { s.takeCueIntake f with
      link := { s.link with thruTx := (s.takeCue f).link.thruTx, forwarding := (s.takeCue f).link.forwarding } } := by
  have h := State.forward_frame f (s.takeCueIntake f)
  rwa [State.takeCueIntake_link] at h

theorem State.takeCue_forwarded (f : Frame) (s : State) : State.Forwarded f s (s.takeCue f) := by
  have hlink := State.takeCueIntake_link f s
  exact (State.forward_forwarded f (s.takeCueIntake f)).of_agree (State.takeCueIntake_now f s)
    (State.lane_congr (congrArg Link.lanes hlink) .thru) (congrArg Link.thruTx hlink) (congrArg Link.forwarding hlink)

theorem exec_cueFrame_of_good {s : State} {f : Frame} (h : s.goodFrame .upstream .cue = some f) :
    exec .cueFrame s = .next ((s.endFrame .upstream).takeCue f) := by
  change execCueFrame s = _
  unfold execCueFrame
  rw [h]

/-- A CUE frame taken at its END: the intake's part is that of the state before the END, the upstream lane has taken the
frame, and the frame is forwarded whatever the intake decided (R1, R132). -/
theorem exec_cueFrame_routes {s : State} {f : Frame} (h : s.goodFrame .upstream .cue = some f) :
    ∃ t, exec .cueFrame s = .next t
      ∧ t = { s.takeCueIntake f with
          link := { s.link with lanes := t.link.lanes, thruTx := t.link.thruTx, forwarding := t.link.forwarding } }
      ∧ State.FrameTaken .upstream s t ∧ State.Forwarded f s t := by
  refine ⟨_, exec_cueFrame_of_good h, ?_, ?_, ?_⟩
  · rw [State.takeCue_frame, State.endFrame_frame, State.takeCueIntake_setLink, State.takeCueIntake_frame f s]
  · exact State.frameTaken_of_lanes (by rw [State.takeCue_frame])
  · have hthru : (s.endFrame .upstream).lane .thru = s.lane .thru := State.lane_endFrame_other s (by decide)
    exact (State.takeCue_forwarded f (s.endFrame .upstream)).of_agree rfl hthru rfl rfl

/-- Settles O11: the step test refuses the frame, so that the intake's part is the report of STEP_STALE alone. -/
theorem cueFrameBehindIsRefused : Obligations.CueFrameBehindIsRefused := by
  intro s f last hgood hlast hbehind
  obtain ⟨t, hexec, ht, htaken, hforwarded⟩ := exec_cueFrame_routes hgood
  rw [State.takeCueIntake_of_refused hlast (Intake.stepAccepted_distance_eq_false hbehind)] at ht
  exact ⟨t, hexec, ht, by rw [ht]; rfl, htaken, hforwarded⟩

end Sys2Proof.Machine

/-! # The stages of a composition (chapter 03): sign, gain, curve and clamp, and the entries that run them -/

namespace Sys2Proof.Machine

/-! ## Sign stage (R58) -/

theorem RouteEntry.negates_iff (e : RouteEntry) (mirror : Bool) :
    e.negates mirror = true ↔ e.invert ≠ (e.mirrorSensitive && mirror) := bne_iff_ne

theorem signStage_false (x : Int) : signStage false x = (x, false) := rfl

theorem signStage_true_min : signStage true (-32768) = (32767, true) := rfl

theorem signStage_true_of_ne {x : Int} (h : x ≠ -32768) : signStage true x = (-x, false) := if_neg h

/-- The sign stage keeps a value within the cue range, since the one negation that would leave it is cut. -/
theorem signStage_range (neg : Bool) {x : Int} (hlo : -32768 ≤ x) (hhi : x ≤ 32767) :
    -32768 ≤ (signStage neg x).1 ∧ (signStage neg x).1 ≤ 32767 := by
  cases neg with
  | false => exact ⟨hlo, hhi⟩
  | true =>
    by_cases hmin : x = -32768
    · subst hmin
      decide
    · rw [signStage_true_of_ne hmin]
      dsimp only
      omega

/-! ## Gain stage (R59) -/

theorem gainStage_of_gt {g s : Nat} {x : Int} (h : 32767 < (x * g * s).tdiv 256) :
    gainStage g s x = (32767, true) := if_pos h

theorem gainStage_of_lt {g s : Nat} {x : Int} (h : (x * g * s).tdiv 256 < -32768) :
    gainStage g s x = (-32768, true) := by
  have hgt : ¬ 32767 < (x * g * s).tdiv 256 := by omega
  exact (if_neg hgt).trans (if_pos h)

theorem gainStage_of_quotient {g s : Nat} {x q : Int} (hq : (x * g * s).tdiv 256 = q) (hlo : -32768 ≤ q)
    (hhi : q ≤ 32767) : gainStage g s x = (q, false) := by
  subst hq
  exact (if_neg (not_lt.mpr hhi)).trans (if_neg (not_lt.mpr hlo))

/-- Truncation toward zero takes a symmetric bound to its quotient. -/
theorem tdiv_bounds {a b n : Int} (hb : 0 < b) (hlo : -(n * b) ≤ a) (hhi : a ≤ n * b) :
    -n ≤ a.tdiv b ∧ a.tdiv b ≤ n := by
  have hupper := Int.tdiv_le_tdiv hb hhi
  have hlower := Int.tdiv_le_tdiv hb hlo
  rw [Int.neg_tdiv, Int.mul_tdiv_cancel n hb.ne'] at hlower
  rw [Int.mul_tdiv_cancel n hb.ne'] at hupper
  exact ⟨hlower, hupper⟩

/-- The product of the gain stage fits the range that a gain of 255 and a scale of 16 allow. -/
theorem gain_product_bounds {g s : Nat} {x : Int} (hg : g ≤ 255) (hs : s ≤ 16) (hlo : -32768 ≤ x) (hhi : x ≤ 32767) :
    -133693440 ≤ x * g * s ∧ x * g * s ≤ 133693440 := by
  have hfactor : g * s ≤ 255 * 16 := Nat.mul_le_mul hg hs
  have habs : |x * g * s| ≤ 32768 * 4080 := by
    rw [mul_assoc, abs_mul]
    refine mul_le_mul (abs_le.mpr ⟨hlo, by omega⟩) ?_ (abs_nonneg _) (by decide)
    rw [← Nat.cast_mul, Nat.abs_cast]
    exact_mod_cast hfactor
  exact abs_le.mp habs

theorem gain_quotient_bounds {g s : Nat} {x : Int} (hg : g ≤ 255) (hs : s ≤ 16) (hlo : -32768 ≤ x) (hhi : x ≤ 32767) :
    -522240 ≤ (x * g * s).tdiv 256 ∧ (x * g * s).tdiv 256 ≤ 522240 := by
  obtain ⟨hplo, hphi⟩ := gain_product_bounds hg hs hlo hhi
  exact tdiv_bounds (by decide) hplo hphi

/-- A gain times scale of 256 is the gain 1. -/
theorem gainStage_unity {g s : Nat} {x : Int} (h : g * s = 256) (hlo : -32768 ≤ x) (hhi : x ≤ 32767) :
    gainStage g s x = (x, false) := by
  have hproduct : (g : Int) * s = 256 := by exact_mod_cast h
  have hquotient : (x * g * s).tdiv 256 = x := by
    rw [mul_assoc, hproduct, Int.mul_tdiv_cancel x (by decide)]
  exact gainStage_of_quotient hquotient hlo hhi

theorem gainStage_zero (s : Nat) (x : Int) : gainStage 0 s x = (0, false) :=
  gainStage_of_quotient (by simp) (by decide) (by decide)

/-- The least gain and scale give 0 below 256: the division truncates toward zero on both sides. -/
theorem gainStage_one_of_small {x : Int} (hlo : -255 ≤ x) (hhi : x ≤ 255) : gainStage 1 1 x = (0, false) := by
  have hquotient : x.tdiv 256 = 0 := by
    rw [← Int.natAbs_eq_zero, Int.natAbs_tdiv]
    exact Nat.div_eq_of_lt (show x.natAbs < 256 by omega)
  exact gainStage_of_quotient (by simpa using hquotient) (by decide) (by decide)

/-! ## Curve stage (R60) -/

theorem Curve.y_range (c : Curve) (k : Nat) : -32768 ≤ c.y k ∧ c.y k ≤ 32767 := cue_range _

theorem Curve.y_eq_getElem (c : Curve) (k : Fin 9) : c.y k.val = (c.points[k]).toInt := by
  simp [Curve.y, Vector.getD]

/-- The curve stage once its segment and position are named. -/
theorem curveStage_some {c : Curve} {x : Int} {u k f : Nat} (hu : (u : Int) = x + 32768) (hk : k = u / 8192)
    (hf : f = u - 8192 * k) :
    curveStage (some c) x = c.y k + ((c.y (k + 1) - c.y k) * f).tdiv 8192 := by
  have hu' : (x + 32768).toNat = u := by omega
  subst hk hf
  simp only [curveStage, Curve.shape, hu']

/-- A fraction of a step, cut toward zero, lies between nothing and the whole step. -/
theorem tdiv_fraction_bounds {d : Int} {f n : Nat} (hn : 0 < n) (hf : f ≤ n) :
    min 0 d ≤ (d * f).tdiv n ∧ (d * f).tdiv n ≤ max 0 d := by
  have hn' : (0 : Int) < n := by exact_mod_cast hn
  have hfn : (f : Int) ≤ n := by exact_mod_cast hf
  have hwhole : (d * n).tdiv n = d := Int.mul_tdiv_cancel d hn'.ne'
  rcases le_total 0 d with hd | hd
  · have hnonneg : 0 ≤ (d * f).tdiv n := Int.tdiv_nonneg (by positivity) hn'.le
    have hle := Int.tdiv_le_tdiv hn' (mul_le_mul_of_nonneg_left hfn hd)
    omega
  · have hnonpos := Int.tdiv_le_tdiv hn' (mul_nonpos_of_nonpos_of_nonneg hd (Int.natCast_nonneg f))
    have hle := Int.tdiv_le_tdiv hn' (mul_le_mul_of_nonpos_left hfn hd)
    rw [Int.zero_tdiv] at hnonpos
    omega

/-- Truncation toward zero never takes the quotient past the exact one. -/
theorem natAbs_mul_tdiv_le (b a : Int) : (b * a.tdiv b).natAbs ≤ a.natAbs := by
  rw [Int.natAbs_mul, Int.natAbs_tdiv]
  exact Nat.mul_div_le _ _

/-- The product of the curve stage fits the greatest step between two points and the greatest position. -/
theorem Curve.product_bounds (c : Curve) (k : Nat) {f : Nat} (hf : f ≤ 8191) :
    -536797185 ≤ (c.y (k + 1) - c.y k) * f ∧ (c.y (k + 1) - c.y k) * f ≤ 536797185 := by
  have hy := c.y_range k
  have hy' := c.y_range (k + 1)
  have habs : |(c.y (k + 1) - c.y k) * (f : Int)| ≤ 65535 * 8191 := by
    rw [abs_mul, Nat.abs_cast]
    exact mul_le_mul (abs_le.mpr ⟨by omega, by omega⟩) (by exact_mod_cast hf) (Int.natCast_nonneg f) (by decide)
  exact abs_le.mp habs

/-- The result of the curve stage lies between the two points of its segment. -/
theorem Curve.interpolate_bounds (c : Curve) (k : Nat) {f : Nat} (hf : f ≤ 8191) :
    min (c.y k) (c.y (k + 1)) ≤ c.y k + ((c.y (k + 1) - c.y k) * f).tdiv 8192
    ∧ c.y k + ((c.y (k + 1) - c.y k) * f).tdiv 8192 ≤ max (c.y k) (c.y (k + 1)) := by
  have hstep := tdiv_fraction_bounds (d := c.y (k + 1) - c.y k) (f := f) (n := 8192) (by decide) (by omega)
  push_cast at hstep
  omega

/-- The top segment of the power-on curve is one short: it rises by 8191 over 8192. -/
theorem curveStage_powerOn_top {x : Int} (hlo : 24577 ≤ x) (hhi : x ≤ 32767) :
    curveStage (some Curve.powerOn) x = x - 1 := by
  obtain ⟨f, rfl⟩ : ∃ f : Nat, x = 24576 + f := ⟨(x - 24576).toNat, by omega⟩
  have hsegment := curveStage_some (c := Curve.powerOn) (x := 24576 + f) (u := 57344 + f) (k := 7) (f := f)
    (by omega) (by omega) (by omega)
  have hy7 : Curve.powerOn.y 7 = 24576 := by decide
  have hy8 : Curve.powerOn.y 8 = 32767 := by decide
  rw [hsegment, hy7, hy8, Int.tdiv_eq_ediv_of_nonneg (by positivity)]
  omega

/-! ## The four stages together (R58 to R61, R65) -/

theorem RouteEntry.shape_value (e : RouteEntry) (c : Option Curve) (mirror : Bool) (scale : Nat) (v : Int) :
    (e.shape c mirror scale v).1
      = e.clamp (curveStage c (gainStage e.gain.toNat scale (signStage (e.negates mirror) v).1).1) := rfl

theorem RouteEntry.shape_sat (e : RouteEntry) (c : Option Curve) (mirror : Bool) (scale : Nat) (v : Int) :
    (e.shape c mirror scale v).2
      = ((signStage (e.negates mirror) v).2
          || (gainStage e.gain.toNat scale (signStage (e.negates mirror) v).1).2) := rfl

/-- The clamp stage gives the end of the range on the side where a value lies outside it (R61). -/
theorem RouteEntry.clamp_of_lt {e : RouteEntry} {x : Int} (h : x < e.lo.toInt) : e.clamp x = e.lo.toInt := if_pos h

theorem RouteEntry.clamp_of_gt {e : RouteEntry} {x : Int} (hlimits : e.lo.toInt ≤ e.hi.toInt) (h : e.hi.toInt < x) :
    e.clamp x = e.hi.toInt := by
  have hlo : ¬ x < e.lo.toInt := by omega
  exact (if_neg hlo).trans (if_pos h)

theorem RouteEntry.slewStage_range (e : RouteEntry) (last : Int) {target : Int} (hlo : -32768 ≤ target)
    (hhi : target ≤ 32767) : -32768 ≤ e.slewStage last target ∧ e.slewStage last target ≤ 32767 := by
  unfold RouteEntry.slewStage
  split
  · exact ⟨hlo, hhi⟩
  · exact e.clamp_range _

/-! ## What an entry leaves, by its kind and by whether its stages run (R49 to R57, R111, R115) -/

/-- The result of an entry's stages on a source value, as the scene of its composition has it. -/
abbrev RouteEntry.shapeIn (e : RouteEntry) (sc : Scene) (v : Int) : Int × Bool :=
  e.shape (e.theCurve sc.curves) sc.mirror sc.scale v

section Kinds

variable {e : RouteEntry} {sc : Scene} {r : Runtime}

theorem RouteEntry.compose_of_level (hkind : e.kind = .level) : e.compose sc r = e.level sc (r.clampLast e) := by
  unfold RouteEntry.compose
  rw [hkind]

theorem RouteEntry.compose_of_delta (hkind : e.kind = .delta) : e.compose sc r = e.delta sc (r.clampLast e) := by
  unfold RouteEntry.compose
  rw [hkind]

theorem RouteEntry.compose_of_peak (hkind : e.kind = .peak) : e.compose sc r = e.peak sc (r.clampLast e) := by
  unfold RouteEntry.compose
  rw [hkind]

theorem RouteEntry.stagesRunOn_level_iff {v : Int} (hkind : e.kind = .level) :
    e.StagesRunOn sc r v ↔ sc.mode = .run ∧ e.levelSource sc.ring sc.targetAge = some v := by
  unfold RouteEntry.StagesRunOn
  rw [hkind]

theorem RouteEntry.stagesRunOn_delta_iff {v : Int} (hkind : e.kind = .delta) :
    e.StagesRunOn sc r v ↔ sc.emits = true ∧ v = clampInt (-32768) 32767 (e.total r sc.span) := by
  unfold RouteEntry.StagesRunOn
  rw [hkind, Scene.emits_iff, and_assoc]

theorem RouteEntry.stagesRunOn_peak_iff {v : Int} (hkind : e.kind = .peak) :
    e.StagesRunOn sc r v ↔ sc.emits = true ∧ v = (peakOf (e.candidates r sc.span)).getD 0 := by
  unfold RouteEntry.StagesRunOn
  rw [hkind, Scene.emits_iff, and_assoc]

/-- A LEVEL entry whose stages run slews from its clamped last output to their result (R62). -/
theorem RouteEntry.compose_level_of_runs {v : Int} (hkind : e.kind = .level) (hrun : e.StagesRunOn sc r v) :
    e.compose sc r =
      { record := { r with last := toCue (e.slewStage (e.clamp r.last.toInt) (e.shapeIn sc v).1) }
        value := toCue (e.slewStage (e.clamp r.last.toInt) (e.shapeIn sc v).1)
        sat := (e.shapeIn sc v).2, limited := false } := by
  obtain ⟨hmode, hsource⟩ := (RouteEntry.stagesRunOn_level_iff hkind).mp hrun
  rw [RouteEntry.compose_of_level hkind]
  simp only [RouteEntry.level, RouteEntry.levelRun, Runtime.clampLast, hmode, hsource, RouteEntry.toCue_clamp]

/-- A DELTA entry that emits shapes the 16-bit part of its total and keeps the rest (R52, R54). -/
theorem RouteEntry.compose_delta_of_emits (hkind : e.kind = .delta) (hemits : sc.emits = true) :
    e.compose sc r =
      let pre := clampInt (-32768) 32767 (e.total r sc.span)
      let kept := limitResidue (e.total r sc.span - pre)
      { record := { r with residue := kept.1, last := toCue (e.shapeIn sc pre).1 }
        value := toCue (e.shapeIn sc pre).1, sat := (e.shapeIn sc pre).2, limited := kept.2 } := by
  rw [RouteEntry.compose_of_delta hkind]
  exact if_pos hemits

/-- A DELTA entry that does not emit banks its total (R53, R115). -/
theorem RouteEntry.compose_delta_of_not_emits (hkind : e.kind = .delta) (hemits : ¬ sc.emits = true) :
    e.compose sc r =
      let kept := limitResidue (e.total r sc.span)
      { record := { r.clampLast e with residue := kept.1 }, value := 0, sat := false, limited := kept.2 } := by
  rw [RouteEntry.compose_of_delta hkind]
  exact if_neg hemits

/-- A PEAK entry that emits shapes its winner and clears the carry (R57). -/
theorem RouteEntry.compose_peak_of_emits (hkind : e.kind = .peak) (hemits : sc.emits = true) :
    e.compose sc r =
      let winner := (peakOf (e.candidates r sc.span)).getD 0
      { record := { r with carry := none, last := toCue (e.shapeIn sc winner).1 }
        value := toCue (e.shapeIn sc winner).1, sat := (e.shapeIn sc winner).2, limited := false } := by
  rw [RouteEntry.compose_of_peak hkind]
  exact if_pos hemits

/-- A PEAK entry that does not emit keeps its winner as the carry (R57, R115). -/
theorem RouteEntry.compose_peak_of_not_emits (hkind : e.kind = .peak) (hemits : ¬ sc.emits = true) :
    e.compose sc r =
      { record := { r.clampLast e with carry := (peakOf (e.candidates r sc.span)).map toCue }
        value := 0, sat := false, limited := false } := by
  rw [RouteEntry.compose_of_peak hkind]
  exact if_neg hemits

/-- A DELTA or PEAK entry whose stages run presents their result without slew, and keeps it as its last output (R61). -/
theorem RouteEntry.compose_output_of_runs {v : Int} (hkind : e.kind ≠ .level) (hrun : e.StagesRunOn sc r v) :
    (e.compose sc r).value.toInt = (e.shapeIn sc v).1 ∧ (e.compose sc r).record.last = (e.compose sc r).value := by
  have hcue : (toCue (e.shapeIn sc v).1).toInt = (e.shapeIn sc v).1 := e.toCue_clamp _
  cases hk : e.kind with
  | level => exact absurd hk hkind
  | delta =>
    obtain ⟨hemits, rfl⟩ := (RouteEntry.stagesRunOn_delta_iff hk).mp hrun
    rw [RouteEntry.compose_delta_of_emits hk hemits]
    exact ⟨hcue, rfl⟩
  | peak =>
    obtain ⟨hemits, rfl⟩ := (RouteEntry.stagesRunOn_peak_iff hk).mp hrun
    rw [RouteEntry.compose_peak_of_emits hk hemits]
    exact ⟨hcue, rfl⟩

/-- The output of a LEVEL entry whose stages run is the slew from its clamped last output (R49, R62). -/
theorem RouteEntry.compose_value_of_level_runs {v : Int} (hkind : e.kind = .level) (hrun : e.StagesRunOn sc r v) :
    (e.compose sc r).value.toInt = e.slewStage (e.clamp r.last.toInt) (e.shapeIn sc v).1 := by
  obtain ⟨htlo, hthi⟩ := e.shape_range (e.theCurve sc.curves) sc.mirror sc.scale v
  obtain ⟨hlo, hhi⟩ := e.slewStage_range (e.clamp r.last.toInt) htlo hthi
  rw [RouteEntry.compose_level_of_runs hkind hrun]
  exact toCue_toInt _ hlo hhi

/-! ## SAT of an entry and of its composition (R58, R59, R65) -/

/-- An entry whose stages run sets SAT exactly where they do. -/
theorem RouteEntry.compose_sat_of_runs {v : Int} (hrun : e.StagesRunOn sc r v) :
    (e.compose sc r).sat = (e.shapeIn sc v).2 := by
  cases hk : e.kind with
  | level => rw [RouteEntry.compose_level_of_runs hk hrun]
  | delta =>
    obtain ⟨hemits, rfl⟩ := (RouteEntry.stagesRunOn_delta_iff hk).mp hrun
    rw [RouteEntry.compose_delta_of_emits hk hemits]
  | peak =>
    obtain ⟨hemits, rfl⟩ := (RouteEntry.stagesRunOn_peak_iff hk).mp hrun
    rw [RouteEntry.compose_peak_of_emits hk hemits]

/-- A LEVEL entry sets no SAT in a degraded mode, nor in RUN where it takes its neutral. -/
theorem RouteEntry.level_sat_of_no_source (h : sc.mode = .run → e.levelSource sc.ring sc.targetAge = none) :
    (e.level sc r).sat = false := by
  unfold RouteEntry.level
  cases hmode : sc.mode with
  | run => simp only [RouteEntry.levelRun, h hmode]
  | hold => rfl
  | fadeStep => rfl
  | settle => rfl

/-- An entry whose stages do not run sets no SAT. -/
theorem RouteEntry.compose_sat_of_not_runs (hidle : ∀ v, ¬ e.StagesRunOn sc r v) : (e.compose sc r).sat = false := by
  cases hk : e.kind with
  | level =>
    rw [RouteEntry.compose_of_level hk]
    refine RouteEntry.level_sat_of_no_source fun hmode => ?_
    exact Option.eq_none_iff_forall_ne_some.mpr fun v hsource =>
      hidle v ((RouteEntry.stagesRunOn_level_iff hk).mpr ⟨hmode, hsource⟩)
  | delta =>
    have hemits : ¬ sc.emits = true := fun h => hidle _ ((RouteEntry.stagesRunOn_delta_iff hk).mpr ⟨h, rfl⟩)
    rw [RouteEntry.compose_delta_of_not_emits hk hemits]
  | peak =>
    have hemits : ¬ sc.emits = true := fun h => hidle _ ((RouteEntry.stagesRunOn_peak_iff hk).mpr ⟨h, rfl⟩)
    rw [RouteEntry.compose_peak_of_not_emits hk hemits]

end Kinds

theorem RouteEntry.shape_sat_of_sign {e : RouteEntry} {mirror : Bool} {v : Int} (c : Option Curve) (scale : Nat)
    (h : (signStage (e.negates mirror) v).2 = true) : (e.shape c mirror scale v).2 = true := by
  rw [RouteEntry.shape_sat, h, Bool.true_or]

theorem RouteEntry.shape_sat_of_gain {e : RouteEntry} {mirror : Bool} {scale : Nat} {v : Int} (c : Option Curve)
    (h : (gainStage e.gain.toNat scale (signStage (e.negates mirror) v).1).2 = true) :
    (e.shape c mirror scale v).2 = true := by
  rw [RouteEntry.shape_sat, h, Bool.or_true]

/-- The negation that leaves the cue range sets SAT, whatever the later stages make of it (R58). -/
theorem RouteEntry.shape_min_sat {e : RouteEntry} {mirror : Bool} (c : Option Curve) (scale : Nat)
    (hneg : e.negates mirror = true) : (e.shape c mirror scale (-32768)).2 = true :=
  RouteEntry.shape_sat_of_sign c scale (by rw [hneg, signStage_true_min])

theorem State.frame_sat_iff (s : State) (p : PortId) (tr : Bool) :
    (s.frame p tr).sat = true ↔ ∃ o ∈ s.outs p tr, o.2.sat = true := List.any_eq_true

theorem State.mem_outs_of_mem_window {s : State} {p : PortId} {i : EntryId} (tr : Bool)
    (hmem : i ∈ s.ports[p].cfg.window) :
    (i, s.routes.entries[i].compose (s.scene p tr) s.routes.records[i]) ∈ s.outs p tr :=
  List.mem_map_of_mem hmem

/-- A composition sets SAT where the stages of an entry of its window run and set it (R65). -/
theorem State.frame_sat_of_runs {s : State} {p : PortId} {tr : Bool} {i : EntryId} {v : Int}
    (hmem : i ∈ s.ports[p].cfg.window)
    (hrun : s.routes.entries[i].StagesRunOn (s.scene p tr) s.routes.records[i] v)
    (hsat : (s.routes.entries[i].shapeIn (s.scene p tr) v).2 = true) : (s.frame p tr).sat = true := by
  rw [State.frame_sat_iff]
  exact ⟨_, State.mem_outs_of_mem_window tr hmem, (RouteEntry.compose_sat_of_runs hrun).trans hsat⟩

/-! ## The statements about the stages (R58 to R61) -/

/-- Settles O35. -/
theorem signStageNegates : Obligations.SignStageNegates := by
  refine ⟨RouteEntry.negates_iff, fun _ _ _ => rfl, fun x hlo _ => signStage_true_of_ne (by omega), signStage_true_min,
    signStage_false, fun neg _ => signStage_range neg, fun _ c _ scale => RouteEntry.shape_min_sat c scale,
    fun _ _ _ _ => RouteEntry.compose_sat_of_runs, fun _ _ _ => RouteEntry.compose_sat_of_not_runs,
    State.frame_sat_iff, ?_⟩
  intro s p tr i hmem hrun hneg
  exact State.frame_sat_of_runs hmem hrun (RouteEntry.shape_min_sat _ _ hneg)

/-- Settles O36. -/
theorem gainStageDividesBy256 : Obligations.GainStageDividesBy256 := by
  refine ⟨?_, gainStage_zero, fun _ => gainStage_one_of_small, rfl, rfl,
    fun _ c _ _ _ => RouteEntry.shape_sat_of_gain c, fun _ _ _ => rfl, fun _ _ _ _ => RouteEntry.compose_sat_of_runs, ?_⟩
  · intro g s x hg _ hs hlo hhi
    obtain ⟨hplo, hphi⟩ := gain_product_bounds hg hs hlo hhi
    obtain ⟨hqlo, hqhi⟩ := gain_quotient_bounds hg hs hlo hhi
    exact ⟨hplo, hphi, hqlo, hqhi, gainStage_of_gt, gainStage_of_lt, gainStage_of_quotient rfl,
      fun hunity => gainStage_unity hunity hlo hhi⟩
  · rintro s p tr i _ v hmem rfl hrun hclamped
    exact State.frame_sat_of_runs hmem hrun (RouteEntry.shape_sat_of_gain _ hclamped)

/-- Settles O37: every bound follows from the position being below the segment's length. -/
theorem curveStageInterpolates : Obligations.CurveStageInterpolates := by
  refine ⟨fun _ => rfl, fun _ _ _ => rfl, fun e curves hcurve => ?_, fun e curves i hcurve => ?_, ?_,
    Curve.y_eq_getElem, fun _ _ _ _ _ _ => rfl, fun _ => curveStage_powerOn_top⟩
  · rw [RouteEntry.theCurve, hcurve, Option.map_none]
  · rw [RouteEntry.theCurve, hcurve, Option.map_some]
  · intro c x u k f hlo hhi hu hk hf
    have hposition : f ≤ 8191 := by omega
    obtain ⟨hplo, hphi⟩ := c.product_bounds k hposition
    obtain ⟨hmin, hmax⟩ := c.interpolate_bounds k hposition
    have hy := c.y_range k
    have hy' := c.y_range (k + 1)
    rw [curveStage_some hu hk hf]
    refine ⟨by omega, by omega, hposition, rfl, hplo, hphi, hmin, hmax, by omega, by omega, fun hzero => ?_, ?_⟩
    · subst hzero
      simp
    · rw [add_sub_cancel_left]
      exact natAbs_mul_tdiv_le 8192 _

/-- Settles O38: what an entry whose stages run presents, and for a LEVEL entry the target of its slew. -/
theorem clampStageGivesTheOutput : Obligations.ClampStageGivesTheOutput := by
  refine ⟨Scene.emits_iff, ?_, fun e c mirror scale v => ⟨e.shape_value c mirror scale v, e.shape_sat c mirror scale v⟩,
    ?_, ?_⟩
  · intro e x hlimits
    exact ⟨clampInt_of_mem _ _ x, RouteEntry.clamp_of_lt, RouteEntry.clamp_of_gt hlimits⟩
  · intro e sc r hemits _
    refine ⟨fun hkind => ?_, fun hkind => ?_⟩
    · exact RouteEntry.compose_output_of_runs (by rw [hkind]; decide)
        ((RouteEntry.stagesRunOn_delta_iff hkind).mpr ⟨hemits, rfl⟩)
    · exact RouteEntry.compose_output_of_runs (by rw [hkind]; decide)
        ((RouteEntry.stagesRunOn_peak_iff hkind).mpr ⟨hemits, rfl⟩)
  · intro e sc r hmode _ hkind v hsource
    exact RouteEntry.compose_value_of_level_runs hkind
      ((RouteEntry.stagesRunOn_level_iff hkind).mpr ⟨hmode, hsource⟩)

end Sys2Proof.Machine

/-! # The cue link (chapter 07): the CRC of a frame, and the replies that return from the thru lane -/

namespace Sys2Proof.Machine

/-! ## The CRC (R127) -/

/-- A bit equal to the register's top bit moves the register up and combines nothing with it. -/
theorem crcBit_msb (r : BitVec 16) : crcBit r r.msb = r <<< 1 := if_pos rfl

/-- A byte is taken bit by bit, most significant bit first. -/
theorem crcByte_eq_foldl_getMsbD (r : BitVec 16) (b : Byte) :
    crcByte r b = ((List.range 8).map b.getMsbD).foldl crcBit r := rfl

/-- A register that is fed its own top bits shifts them out: at each bit its top bit is the next one fed. -/
theorem foldl_crcBit_getMsbD (r : BitVec 16) (n : Nat) :
    ((List.range n).map r.getMsbD).foldl crcBit r = r <<< n := by
  induction n with
  | zero => exact (BitVec.shiftLeft_zero r).symm
  | succ n ih =>
    have htop : r.getMsbD n = (r <<< n).msb := BitVec.msb_shiftLeft.symm
    rw [List.range_succ, List.map_append, List.foldl_append, ih, List.map_singleton, List.foldl_cons, List.foldl_nil,
      htop, crcBit_msb, BitVec.shiftLeft_add]

/-- A register that is fed its own high byte shifts that byte out. -/
theorem crcByte_high (r : BitVec 16) : crcByte r (r.extractLsb' 8 8) = r <<< 8 := by
  have hbits : (List.range 8).map (r.extractLsb' 8 8).getMsbD = (List.range 8).map r.getMsbD := by
    refine List.map_congr_left fun k hk => ?_
    have hk8 : k < 8 := List.mem_range.mp hk
    have hpos : 8 + (7 - k) = 15 - k := by omega
    have hlow : 7 - k < 8 := by omega
    have h16 : k < 16 := by omega
    simp [BitVec.getMsbD_eq_getLsbD, hk8, hlow, h16, hpos]
  rw [crcByte_eq_foldl_getMsbD, hbits, foldl_crcBit_getMsbD]

/-- The high byte of a register moved up by a byte is its low byte. -/
theorem extractLsb'_shiftLeft_byte (r : BitVec 16) : (r <<< 8).extractLsb' 8 8 = r.extractLsb' 0 8 := by
  ext k hk
  have hin : 8 + k < 16 := by omega
  simpa using fun _ => hin

/-- A register that is fed its own two bytes, the high one first, is left at 0. -/
theorem foldl_crcByte_bytes16 (r : BitVec 16) : (bytes16 r).foldl crcByte r = 0 := by
  calc (bytes16 r).foldl crcByte r
      = crcByte (crcByte r (r.extractLsb' 8 8)) (r.extractLsb' 0 8) := rfl
    _ = crcByte (r <<< 8) ((r <<< 8).extractLsb' 8 8) := by rw [crcByte_high, extractLsb'_shiftLeft_byte]
    _ = r <<< (8 + 8) := by rw [crcByte_high, BitVec.shiftLeft_add]
    _ = 0 := BitVec.shiftLeft_eq_zero (le_refl 16)

theorem crc_append (bytes rest : List Byte) : crc (bytes ++ rest) = rest.foldl crcByte (crc bytes) := List.foldl_append

/-- A frame received without error leaves the register at 0. -/
theorem crc_withCrc (bytes : List Byte) : crc (withCrc bytes) = 0 :=
  (crc_append bytes (bytes16 (crc bytes))).trans (foldl_crcByte_bytes16 (crc bytes))

theorem checkFrame_of_crc_ne_zero (l : Lane) {f : Frame} (hsize : 6 ≤ f.length) (hcrc : crc f ≠ 0) :
    checkFrame l f = some .crc := by
  unfold checkFrame
  rw [if_neg (Nat.not_lt.mpr hsize), if_pos hcrc]

/-- Settles O16: the appended CRC is the register's own two bytes, which shift it out to 0. -/
theorem crcLeavesZeroOnAnIntactFrame : Obligations.CrcLeavesZeroOnAnIntactFrame := by
  refine ⟨?preset, ?byteByByte, ?appended, ?checked, ?checkValue⟩
  case preset => rfl
  case byteByByte => exact fun bytes b => crc_append bytes [b]
  case appended => exact fun bytes => ⟨rfl, crc_withCrc bytes⟩
  case checked => exact fun l _ => checkFrame_of_crc_ne_zero l
  case checkValue => decide +kernel

/-! ## A frame that fails a check (R128) -/

/-- A failed check is one count: of CRC_ERRORS for the CRC, and of BAD_FRAMES for every other check (R128, R164). -/
def LaneCounters.countFault (why : FrameFault) (k : LaneCounters) : LaneCounters :=
  if why = .crc then { k with crcErrors := addSat k.crcErrors 1 } else { k with badFrames := addSat k.badFrames 1 }

@[simp] theorem State.lane_raiseLinkError (s : State) (l : Lane) : s.raiseLinkError.lane l = s.lane l := rfl

/-- A frame that fails a check leaves the assembler, is counted with LINK_ERROR raised, and is reported. -/
theorem State.failFrame_eq (l : Lane) (why : FrameFault) (s : State) :
    s.failFrame l why =
      (s.updLane l fun r => { r with asm := none, counters := r.counters.countFault why }).raiseLinkError.reportOn l := by
  cases why <;> exact congrArg (fun t : State => t.raiseLinkError.reportOn l) (State.updLane_updLane s l _ _)

theorem exec_frameCheckFailed_of_fault {l : Lane} {s : State} {f : Frame} {why : FrameFault}
    (hframe : s.inFrame l = some f) (hfault : checkFrame l f = some why) :
    exec (.frameCheckFailed l) s = .next ((s.setLink l (.alive 0)).failFrame l why) := by
  change execFrameCheckFailed l s = _
  simp only [execFrameCheckFailed, hframe, hfault]

/-- On the thru lane a failed frame changes that lane and LINK_ERROR alone: it is reported to nobody (R130). -/
theorem exec_frameCheckFailed_thru {s : State} {f : Frame} {why : FrameFault} (hframe : s.inFrame .thru = some f)
    (hfault : checkFrame .thru f = some why) :
    exec (.frameCheckFailed .thru) s =
      .next (s.updLane .thru fun r =>
        { link := .alive 0, asm := none, counters := r.counters.countFault why }).raiseLinkError := by
  rw [exec_frameCheckFailed_of_fault hframe hfault, State.failFrame_eq]
  unfold State.setLink
  rw [State.updLane_updLane]
  rfl

/-! ## REPLY_FRAME (R134) -/

/-- The arbiter reads the timebase, the upstream transmitter and the mark of the state before it alone. -/
theorem State.Arbitrated.of_agree {alive : Bool} {s u t : State} (h : State.Arbitrated alive u t) (hnow : u.now = s.now)
    (htx : u.link.upTx = s.link.upTx) (hmark : u.link.lastServed = s.link.lastServed) : State.Arbitrated alive s t := by
  unfold State.Arbitrated at h ⊢
  rwa [hnow, htx, hmark] at h

/-- A returned reply changes no receive lane, whether it finds a place or not. -/
theorem State.joinReturn_lanes (f : Frame) (s : State) : (s.joinReturn f).link.lanes = s.link.lanes := by
  by_cases hplace : s.link.returns.length < 4
  · rw [State.joinReturn_frame f s hplace]
  · rw [State.joinReturn_full f s hplace, State.countReturnDropped_link]

theorem exec_replyFrame_of_good {s : State} {f : Frame} (h : s.goodFrame .thru .reply = some f) :
    exec .replyFrame s = .next ((s.endFrame .thru).joinReturn f) := by
  change execReplyFrame s = _
  unfold execReplyFrame
  rw [h]

/-- A reply that finds a place joins the return queue as it arrived. -/
theorem State.endFrame_joinReturn_place {f : Frame} {s : State} (hplace : s.link.returns.length < 4) :
    (s.endFrame .thru).joinReturn f =
      { s with link := { s.link with
          lanes := ((s.endFrame .thru).joinReturn f).link.lanes, returns := s.link.returns ++ [f],
          upTx := ((s.endFrame .thru).joinReturn f).link.upTx,
          lastServed := ((s.endFrame .thru).joinReturn f).link.lastServed } } := by
  rw [State.joinReturn_lanes]
  exact State.joinReturn_frame f (s.endFrame .thru) hplace

/-- The END of a frame on the thru lane leaves the upstream lane as it was, so the arbiter finds that lane unchanged. -/
theorem State.endFrame_joinReturn_arbitrated {f : Frame} {s : State} (hplace : s.link.returns.length < 4) :
    State.Arbitrated (s.lane .upstream).alive s ((s.endFrame .thru).joinReturn f) := by
  have h := State.joinReturn_arbitrated f (s.endFrame .thru) hplace
  rw [State.lane_endFrame_other s (by decide)] at h
  exact h.of_agree rfl rfl rfl

/-- A reply that finds the return queue full is counted and raises DROPPED, and nothing else but the lane changes. -/
theorem State.endFrame_joinReturn_full {f : Frame} {s : State} (hfull : 4 ≤ s.link.returns.length) :
    (s.endFrame .thru).joinReturn f =
      { s with link := { s.link with lanes := ((s.endFrame .thru).joinReturn f).link.lanes }
               counters := { s.counters with returnsDropped := addSat s.counters.returnsDropped 1 }
               conditions := { s.conditions with dropped := true } } := by
  rw [State.joinReturn_lanes]
  exact State.joinReturn_full f (s.endFrame .thru) (Nat.not_lt.mpr hfull)

/-- Settles O23: a good reply by whether the return queue has a place, a failed frame by its one count on its lane. -/
theorem replyFrameJoinsTheReturnQueue : Obligations.ReplyFrameJoinsTheReturnQueue := by
  refine ⟨fun s f hgood => ?_, fun s f hframe hfails => ?_⟩
  · exact ⟨_, exec_replyFrame_of_good hgood, State.frameTaken_of_lanes (State.joinReturn_lanes f _),
      fun hplace => ⟨State.endFrame_joinReturn_place hplace, State.endFrame_joinReturn_arbitrated hplace⟩,
      State.endFrame_joinReturn_full⟩
  · obtain ⟨why, hfault⟩ := Option.ne_none_iff_exists'.mp hfails
    refine ⟨_, exec_frameCheckFailed_thru hframe hfault, rfl, rfl, rfl, ?_⟩
    simp [hfault, LaneCounters.countFault]

end Sys2Proof.Machine

/-! # Condition sets (chapters 09 and 10): the bits of a set, the sets a read returns, and the conditions a clear leaves -/

namespace Sys2Proof.Machine

/-! ## The bits of a set (R177) -/

/-- The number that bits spell, bit 0 first, has those bits, and 0 above them. -/
theorem testBit_foldr_bits (bits : List Bool) (k : Nat) :
    (bits.foldr (fun (b : Bool) (acc : Nat) => (if b then 1 else 0) + 2 * acc) 0).testBit k = bits.getD k false := by
  induction bits generalizing k with
  | nil => simp
  | cons b bits ih =>
    cases k with
    | zero => cases b <;> simp
    | succ k =>
      have hhalf (n : Nat) : ((if b = true then 1 else 0) + 2 * n) / 2 = n := by split <;> omega
      rw [List.foldr_cons, Nat.testBit_succ, hhalf, ih, List.getD_cons_succ]

theorem getLsbD_byteOfBits (bits : List Bool) {k : Nat} (hk : k < 8) :
    (byteOfBits bits).getLsbD k = bits.getD k false := by
  rw [byteOfBits, BitVec.getLsbD_ofNat, testBit_foldr_bits, decide_eq_true hk, Bool.true_and]

/-- Bits cleared one by one where a set names them spell the byte with the set's bits cleared. -/
theorem byteOfBits_mapIdx_clear (bits : List Bool) (b : Byte) :
    byteOfBits (bits.mapIdx fun k x => x && !b.getLsbD k) = byteOfBits bits &&& ~~~b := by
  refine BitVec.eq_of_getLsbD_eq fun k hk => ?_
  rw [BitVec.getLsbD_and, BitVec.getLsbD_not, getLsbD_byteOfBits _ hk, getLsbD_byteOfBits _ hk]
  by_cases hbit : k < bits.length
  · simp [hbit, hk]
  · simp [hbit]

theorem getLsbD_and_not (x b : Byte) {k : Nat} (hk : k < 8) :
    (x &&& ~~~b).getLsbD k = (x.getLsbD k && !b.getLsbD k) := by
  rw [BitVec.getLsbD_and, BitVec.getLsbD_not, decide_eq_true hk, Bool.true_and]

theorem PartConditions.byte_clear (c : PartConditions) (b : Byte) : (c.clear b).byte = c.byte &&& ~~~b :=
  byteOfBits_mapIdx_clear
    [c.linkError, c.stepStale, c.stepGap, c.sourceSilent, c.batchFault, c.refused, c.dropped] b

theorem PortConditions.byte_clear (c : PortConditions) (b : Byte) : (c.clear b).byte = c.byte &&& ~~~b :=
  byteOfBits_mapIdx_clear
    [c.paceOverrun, c.timerOverrun, c.historyLost, c.saturated, c.residueSaturated, c.lagLimited, c.laneDown] b

/-! ## Read Conditions (R158, R177) -/

/-- The sets in the order of the result: the part's at offset 0, and port p's at offset 1 + p. -/
theorem State.answer_readConditions (body : List Byte) (s : State) :
    s.answer .readConditions body = (s.conditions.byte :: s.ports.toList.map fun p => p.conditions.byte, s) := rfl

theorem State.getD_readConditions_port (body : List Byte) (s : State) (p : PortId) :
    (s.answer .readConditions body).1.getD (1 + p.val) 0 = s.ports[p].conditions.byte := by
  rw [State.answer_readConditions, Nat.add_comm, List.getD_cons_succ]
  simp

/-! ## Clear Conditions (R159, R178) -/

/-- The state that a Clear Conditions with the seven sets of `body` leaves. -/
def State.clearConditions (body : List Byte) (s : State) : State :=
  { s with
    conditions := s.conditions.clear (body.getD 0 0)
    ports := Vector.ofFn fun p : PortId =>
      { s.ports[p] with conditions := s.ports[p].conditions.clear (body.getD (1 + p.val) 0) } }

theorem State.conditions_clearConditions (body : List Byte) (s : State) :
    (s.clearConditions body).conditions = s.conditions.clear (body.getD 0 0) := rfl

theorem State.ports_clearConditions (body : List Byte) (s : State) (p : PortId) :
    (s.clearConditions body).ports[p] =
      { s.ports[p] with conditions := s.ports[p].conditions.clear (body.getD (1 + p.val) 0) } := by
  simp [State.clearConditions]

/-- With bit 7 of every set 0 a Clear Conditions is not refused, and it resets no record. -/
theorem Work.clearConditions_of_bit7_clear (w : Work) {body : List Byte}
    (hbit : ∀ b ∈ body.take 7, b.getLsbD 7 = false) :
    w.clearConditions body = .ok (.done, { w with state := w.state.clearConditions body }) := by
  have haccepted : ¬ (body.take 7).any (fun b => b.getLsbD 7) = true := by
    simpa only [List.any_eq_true, not_exists, not_and, Bool.not_eq_true] using hbit
  exact if_neg haccepted

/-- Settles O8: each set is spelled by its seven bits, so a clear is a bitwise one on the byte of every set. -/
theorem conditionSetsAreSevenBytes : Obligations.ConditionSetsAreSevenBytes := by
  refine ⟨fun s => ⟨?length, rfl, s.getD_readConditions_port [], rfl⟩, ?bodyLength, ?partBits, ?portBits, ?clear⟩
  case length => simp [State.answer_readConditions]
  case bodyLength => exact fun body => decide_eq_true_iff
  case partBits =>
    intro c
    and_intros <;> exact getLsbD_byteOfBits _ (by decide)
  case portBits =>
    intro c
    and_intros <;> exact getLsbD_byteOfBits _ (by decide)
  case clear =>
    intro body w hlength hbit
    have hsets : body.take 7 = body := List.take_of_length_le hlength.le
    refine ⟨w.state.clearConditions body, w.clearConditions_of_bit7_clear (by rwa [hsets]), rfl, fun k hk => ?_,
      fun p => ⟨?_, fun k hk => ?_⟩⟩
    · rw [State.conditions_clearConditions, PartConditions.byte_clear, getLsbD_and_not _ _ (by omega)]
    · rw [State.ports_clearConditions]
    · rw [State.ports_clearConditions, PortConditions.byte_clear, getLsbD_and_not _ _ (by omega)]

end Sys2Proof.Machine

/-! # Commands and steps: a command is the event it names, and what an empty queue does -/

namespace Sys2Proof.Machine

/-! ## One symbol time, by what it completes (R123, R124, R126, R128) -/

theorem RxLane.alive_iff (r : RxLane) : r.alive = true ↔ ∃ run, r.link = .alive run := by
  unfold RxLane.alive
  cases r.link <;> simp

theorem State.inFrame_eq_some_iff {s : State} {l : Lane} {f : Frame} :
    s.inFrame l = some f ↔ (∃ run, (s.lane l).link = .alive run) ∧ (s.lane l).asm = some f := by
  unfold State.inFrame
  rw [← RxLane.alive_iff]
  by_cases h : (s.lane l).alive = true <;> simp [h]

theorem State.goodFrame_eq_some_iff {s : State} {l : Lane} {c : FrameClass} {f : Frame} :
    s.goodFrame l c = some f ↔ s.inFrame l = some f ∧ checkFrame l f = none ∧ frameClass f = some c := by
  simp [State.goodFrame, isGood, Option.filter_eq_some_iff]

@[simp] theorem State.lane_setLink_same (s : State) (l : Lane) (x : LinkState) :
    (s.setLink l x).lane l = { s.lane l with link := x } := State.lane_updLane_same s l _

theorem State.lane_setLink_other (s : State) {l m : Lane} (x : LinkState) (h : m ≠ l) :
    (s.setLink l x).lane m = s.lane m := State.lane_updLane_other s _ h

@[simp] theorem State.lane_setAsm_same (s : State) (l : Lane) (x : Option Frame) :
    (s.setAsm l x).lane l = { s.lane l with asm := x } := State.lane_updLane_same s l _

theorem State.receive_of_down {s : State} {l : Lane} {run : Nat} (hlink : (s.lane l).link = .down run) (sym : Symbol) :
    s.receive l sym =
      if sym = .idleSym then if run < 3 then s.setLink l (.down (run + 1)) else s.becomeAlive l
      else s.setLink l (.down 0) := by
  simp only [State.receive, hlink]

theorem State.receive_of_alive {s : State} {l : Lane} {run : Nat} (hlink : (s.lane l).link = .alive run) (sym : Symbol) :
    s.receive l sym =
      match sym with
      | .invalid => (s.invalidCode l).faultTime l run
      | .noSignal => s.faultTime l run
      | _ => (s.setLink l (.alive 0)).assemble l sym := by
  simp only [State.receive, hlink]
  cases sym <;> rfl

theorem State.receive_of_valid {s : State} {l : Lane} {run : Nat} {sym : Symbol} (hlink : (s.lane l).link = .alive run)
    (hvalid : sym.valid = true) : s.receive l sym = (s.setLink l (.alive 0)).assemble l sym := by
  rw [State.receive_of_alive hlink]
  cases sym with
  | data b | startSym | endSym | abortSym | idleSym => rfl
  | invalid | noSignal => cases hvalid

/-- A valid symbol within a frame is taken by the assembler. -/
theorem State.receive_inFrame {s : State} {l : Lane} {bytes : Frame} (hframe : s.inFrame l = some bytes) {sym : Symbol}
    (hvalid : sym.valid = true) :
    s.receive l sym =
      match sym with
      | .startSym => (s.setLink l (.alive 0)).breakFrame l (some [])
      | .data b =>
        if bytes.length < Config.maxFrame then (s.setLink l (.alive 0)).setAsm l (some (bytes ++ [b]))
        else (s.setLink l (.alive 0)).breakFrame l none
      | .endSym => (s.setLink l (.alive 0)).completeFrame l bytes
      | .abortSym => (s.setLink l (.alive 0)).abortFrame l
      | .idleSym => (s.setLink l (.alive 0)).breakFrame l none
      | .invalid | .noSignal => s.setLink l (.alive 0) := by
  obtain ⟨⟨run, hlink⟩, hasm⟩ := State.inFrame_eq_some_iff.mp hframe
  rw [State.receive_of_valid hlink hvalid]
  simp only [State.assemble, State.lane_setLink_same, hasm]
  cases sym <;> rfl

/-- The symbols that break a frame leave what BAD_FRAME_SYMBOL says (R126). -/
theorem State.receive_breaksFrame {s : State} {l : Lane} {bytes : Frame} {sym : Symbol}
    (hframe : s.inFrame l = some bytes) (hbreaks : breaksFrame sym bytes = true) :
    s.receive l sym = (s.setLink l (.alive 0)).breakFrame l (if sym = .startSym then some [] else none) := by
  cases sym with
  | startSym => exact State.receive_inFrame hframe rfl
  | idleSym => exact State.receive_inFrame hframe rfl
  | data b =>
    have hfull : ¬ bytes.length < Config.maxFrame := Nat.not_lt.mpr (of_decide_eq_true hbreaks)
    exact (State.receive_inFrame hframe rfl).trans (if_neg hfull)
  | endSym | abortSym | invalid | noSignal => cases hbreaks

/-- The END of a frame that fails a check. -/
theorem State.receive_endSym_of_fault {s : State} {l : Lane} {f : Frame} {why : FrameFault}
    (hframe : s.inFrame l = some f) (hfault : checkFrame l f = some why) :
    s.receive l .endSym = (s.setLink l (.alive 0)).failFrame l why := by
  rw [State.receive_inFrame hframe rfl]
  simp only [State.completeFrame, hfault]

/-- The END of a frame that passes every check routes it. -/
theorem State.receive_endSym_of_passed {s : State} {l : Lane} {f : Frame}
    (hframe : s.inFrame l = some f) (hpassed : checkFrame l f = none) :
    s.receive l .endSym = (s.endFrame l).route l f := by
  rw [State.receive_inFrame hframe rfl]
  simp only [State.completeFrame, hpassed]
  rfl

theorem State.route_cue {f : Frame} (hclass : frameClass f = some .cue) (s : State) :
    s.route .upstream f = s.takeCue f := by
  simp only [State.route, hclass]

theorem State.route_request {f : Frame} (hclass : frameClass f ≠ some .cue) (s : State) :
    s.route .upstream f = s.routeRequest f := by
  simp only [State.route]

/-- The END of a good frame of a class routes it. -/
theorem State.receive_of_good {s : State} {l : Lane} {c : FrameClass} {f : Frame} (hgood : s.goodFrame l c = some f) :
    s.receive l .endSym = (s.endFrame l).route l f := by
  obtain ⟨hframe, hpassed, _⟩ := State.goodFrame_eq_some_iff.mp hgood
  exact State.receive_endSym_of_passed hframe hpassed

theorem State.aliveDue_iff {s : State} {l : Lane} :
    s.aliveDue l = true ↔ ∃ run, (s.lane l).link = .down run ∧ 3 ≤ run := by
  unfold State.aliveDue
  cases (s.lane l).link <;> simp

theorem State.lossDue_iff {s : State} {l : Lane} :
    s.lossDue l = true ↔ ∃ run, (s.lane l).link = .alive run ∧ 15 ≤ run := by
  unfold State.lossDue
  cases (s.lane l).link <;> simp

theorem State.faultTime_of_lt {run : Nat} (h : run < 15) (l : Lane) (s : State) :
    s.faultTime l run = s.setLink l (.alive (run + 1)) := if_pos h

theorem State.faultTime_of_ge {run : Nat} (h : 15 ≤ run) (l : Lane) (s : State) :
    s.faultTime l run = s.loseLock l := if_neg (Nat.not_lt.mpr h)

/-! ## A command is its event (logs 4 and 5) -/

/-- A command whose event does not hold changes nothing. -/
theorem exec_of_not_holds {c : Instr} {s : State} (h : s.eventHolds c = false) : exec c s = .next s := by
  cases c with
  | powerOnReset straps => cases h
  | linkAlive l =>
    change execLinkAlive l s = _
    simp only [State.eventHolds] at h
    simp [execLinkAlive, h]
  | lockLoss l sym =>
    change execLockLoss l sym s = _
    simp only [State.eventHolds, Bool.and_eq_false_iff, Bool.not_eq_false'] at h
    rcases h with hdue | hvalid
    · simp [execLockLoss, hdue]
    · unfold execLockLoss
      cases sym with
      | data b | startSym | endSym | abortSym | idleSym => simp
      | invalid | noSignal => cases hvalid
  | codeError l =>
    change execCodeError l s = _
    simp only [State.eventHolds, RxLane.alive] at h
    unfold execCodeError
    cases hlink : (s.lane l).link with
    | down run => rfl
    | alive run => simp [hlink] at h
  | frameAborted l =>
    change execFrameAborted l s = _
    simp only [State.eventHolds] at h
    simp [execFrameAborted, h]
  | badFrameSymbol l sym =>
    change execBadFrameSymbol l sym s = _
    simp only [State.eventHolds] at h
    unfold execBadFrameSymbol
    cases hframe : s.inFrame l with
    | none => rfl
    | some bytes =>
      simp only [hframe] at h
      simp [h]
  | frameCheckFailed l =>
    change execFrameCheckFailed l s = _
    simp only [State.eventHolds] at h
    unfold execFrameCheckFailed
    cases hframe : s.inFrame l with
    | none => rfl
    | some f =>
      simp only [hframe, Option.isSome_eq_false_iff, Option.isNone_iff_eq_none] at h
      simp [h]
  | cueFrame | requestFrame | replyFrame =>
    simp only [State.eventHolds, Option.isSome_eq_false_iff, Option.isNone_iff_eq_none] at h
    simp only [exec, execCueFrame, execRequestFrame, execReplyFrame, h]
  | paceFrame p =>
    simp only [State.eventHolds, Option.isSome_eq_false_iff, Option.isNone_iff_eq_none] at h
    simp only [exec, execPaceFrame, h]
  | thruTransmitEnd | upstreamTransmitEnd | sourceTimeoutExpiry | batchTimeout | intervalTimerExpiry p
  | destTransmissionEnd p =>
    simp only [State.eventHolds] at h
    simp only [exec, execThruTransmitEnd, execUpstreamTransmitEnd, execSourceTimeoutExpiry, execBatchTimeout,
      execIntervalTimerExpiry, execDestTransmissionEnd, h, Bool.false_eq_true, if_false]
  | symbolTime l sym => cases h

theorem exec_lockLoss_noSignal {l : Lane} {s : State} (h : s.lossDue l = true) :
    exec (.lockLoss l .noSignal) s = .next (s.loseLock l) := congrArg Host.Outcome.next (if_pos h)

theorem exec_lockLoss_invalid {l : Lane} {s : State} (h : s.lossDue l = true) :
    exec (.lockLoss l .invalid) s = .next ((s.invalidCode l).loseLock l) := congrArg Host.Outcome.next (if_pos h)

/-- A receive command whose event holds is the symbol time that its symbol makes. -/
theorem exec_of_stimulus {c : Instr} {l : Lane} {sym : Symbol} {s : State} (hstim : c.stimulus = some (l, sym))
    (h : s.eventHolds c = true) : exec c s = .next (s.receive l sym) := by
  cases c with
  | linkAlive m =>
    obtain ⟨rfl, rfl⟩ : m = l ∧ Symbol.idleSym = sym := by simpa [Instr.stimulus] using hstim
    obtain ⟨run, hlink, hrun⟩ := State.aliveDue_iff.mp h
    have hdue : s.aliveDue m = true := h
    rw [State.receive_of_down hlink, if_pos rfl, if_neg (Nat.not_lt.mpr hrun)]
    exact congrArg _ (if_pos hdue)
  | lockLoss m y =>
    obtain ⟨rfl, rfl⟩ : m = l ∧ y = sym := by simpa [Instr.stimulus] using hstim
    obtain ⟨hdue, hinvalid⟩ : s.lossDue m = true ∧ y.valid = false := by simpa [State.eventHolds] using h
    obtain ⟨run, hlink, hrun⟩ := State.lossDue_iff.mp hdue
    rw [State.receive_of_alive hlink]
    cases y with
    | noSignal => exact (exec_lockLoss_noSignal hdue).trans (congrArg _ (State.faultTime_of_ge hrun m s).symm)
    | invalid => exact (exec_lockLoss_invalid hdue).trans (congrArg _ (State.faultTime_of_ge hrun m _).symm)
    | data b | startSym | endSym | abortSym | idleSym => cases hinvalid
  | codeError m =>
    obtain ⟨rfl, rfl⟩ : m = l ∧ Symbol.invalid = sym := by simpa [Instr.stimulus] using hstim
    obtain ⟨run, hlink⟩ := (RxLane.alive_iff _).mp h
    rw [State.receive_of_alive hlink]
    change execCodeError m s = _
    simp only [execCodeError, hlink]
  | frameAborted m =>
    obtain ⟨rfl, rfl⟩ : m = l ∧ Symbol.abortSym = sym := by simpa [Instr.stimulus] using hstim
    obtain ⟨bytes, hframe⟩ := Option.isSome_iff_exists.mp h
    rw [State.receive_inFrame hframe rfl]
    exact congrArg Host.Outcome.next (if_pos h)
  | badFrameSymbol m y =>
    obtain ⟨rfl, rfl⟩ : m = l ∧ y = sym := by simpa [Instr.stimulus] using hstim
    cases hframe : s.inFrame m with
    | none => simp [State.eventHolds, hframe] at h
    | some bytes =>
      have hbreaks : breaksFrame y bytes = true := by simpa [State.eventHolds, hframe] using h
      rw [State.receive_breaksFrame hframe hbreaks]
      change execBadFrameSymbol m y s = _
      simp only [execBadFrameSymbol, hframe, if_pos hbreaks]
  | frameCheckFailed m =>
    obtain ⟨rfl, rfl⟩ : m = l ∧ Symbol.endSym = sym := by simpa [Instr.stimulus] using hstim
    cases hframe : s.inFrame m with
    | none => simp [State.eventHolds, hframe] at h
    | some f =>
      obtain ⟨why, hfault⟩ := Option.isSome_iff_exists.mp (show (checkFrame m f).isSome = true by
        simpa [State.eventHolds, hframe] using h)
      rw [State.receive_endSym_of_fault hframe hfault]
      exact exec_frameCheckFailed_of_fault hframe hfault
  | cueFrame =>
    obtain ⟨rfl, rfl⟩ : Lane.upstream = l ∧ Symbol.endSym = sym := by simpa [Instr.stimulus] using hstim
    obtain ⟨f, hgood⟩ := Option.isSome_iff_exists.mp h
    obtain ⟨_, _, hclass⟩ := State.goodFrame_eq_some_iff.mp hgood
    rw [State.receive_of_good hgood, State.route_cue hclass]
    exact exec_cueFrame_of_good hgood
  | requestFrame =>
    obtain ⟨rfl, rfl⟩ : Lane.upstream = l ∧ Symbol.endSym = sym := by simpa [Instr.stimulus] using hstim
    obtain ⟨f, hgood⟩ := Option.isSome_iff_exists.mp h
    obtain ⟨_, _, hclass⟩ := State.goodFrame_eq_some_iff.mp hgood
    rw [State.receive_of_good hgood, State.route_request (by rw [hclass]; decide)]
    change execRequestFrame s = _
    simp only [execRequestFrame, hgood]
  | replyFrame =>
    obtain ⟨rfl, rfl⟩ : Lane.thru = l ∧ Symbol.endSym = sym := by simpa [Instr.stimulus] using hstim
    obtain ⟨f, hgood⟩ := Option.isSome_iff_exists.mp h
    rw [State.receive_of_good hgood]
    exact exec_replyFrame_of_good hgood
  | paceFrame p =>
    obtain ⟨rfl, rfl⟩ : Lane.output p = l ∧ Symbol.endSym = sym := by simpa [Instr.stimulus] using hstim
    obtain ⟨f, hgood⟩ := Option.isSome_iff_exists.mp h
    rw [State.receive_of_good hgood]
    change execPaceFrame p s = _
    simp only [execPaceFrame, hgood]
    rfl
  | symbolTime m y =>
    obtain ⟨rfl, rfl⟩ : m = l ∧ y = sym := by simpa [Instr.stimulus] using hstim
    rfl
  | powerOnReset straps | thruTransmitEnd | sourceTimeoutExpiry | batchTimeout | upstreamTransmitEnd
  | intervalTimerExpiry p | destTransmissionEnd p => cases hstim

/-- Settles O4. -/
theorem commandIsItsEvent : Obligations.CommandIsItsEvent :=
  ⟨fun _ _ => exec_of_not_holds, fun _ _ _ _ hstim h => exec_of_stimulus hstim h⟩

/-! ## The timed events and the empty queue (logs 2, 3 and 9) -/

/-- Settles O1. -/
theorem stepTakesFrontCommand : Obligations.StepTakesFrontCommand := fun _ _ _ => rfl

/-- The due events are the timed commands whose event holds. -/
theorem State.mem_dueEvents_iff (s : State) (e : Instr) :
    e ∈ s.dueEvents ↔ e.stimulus = none ∧ (∀ u, e ≠ .powerOnReset u) ∧ s.eventHolds e = true := by
  unfold State.dueEvents
  cases e <;> simp [Instr.stimulus, State.eventHolds]

theorem pickEvent_mem (choice : Nat) {es : List Instr} (h : es ≠ []) : ∃ e ∈ es, pickEvent choice es = some e := by
  match es with
  | [] => exact absurd rfl h
  | [e] => exact ⟨e, by simp, rfl⟩
  | e :: e' :: rest =>
    have hlt : choice % (rest.length + 2) < (e :: e' :: rest).length := Nat.mod_lt _ (by omega)
    exact ⟨_, List.getElem_mem hlt, List.getElem?_eq_getElem hlt⟩

theorem step_of_pending_nil {s : State} (h : s.pending = []) :
    step s = match s.idleEvent with
      | some e => exec e { s with choices := s.choices + 1 }
      | none => .next s.tick := by
  simp only [step, h] <;> rfl

/-- Settles O2. -/
theorem emptyQueueTakesDueEventOrTicks : Obligations.EmptyQueueTakesDueEventOrTicks := by
  intro s hqueue
  refine ⟨s.mem_dueEvents_iff, fun e hdue => ?_, fun hdue => ?_, fun hdue => ?_⟩
  · simp only [step_of_pending_nil hqueue, State.idleEvent, hdue, pickEvent]
  · obtain ⟨e, hmem, hpick⟩ := pickEvent_mem (Config.choice s.choices) hdue
    exact ⟨e, hmem, by simp only [step_of_pending_nil hqueue, State.idleEvent, hpick]⟩
  · refine ⟨s.tick, by simp only [step_of_pending_nil hqueue, State.idleEvent, hdue, pickEvent], ?_, fun p => ?_⟩
    · unfold State.tick
      cases s.intake.source <;> rfl
    · simp [State.tick, Transmitter.settle]

/-- What a step can do: a command taken with the rest of the queue, a due event, or one µs. -/
theorem step_cases {s t : State} (h : step s = .next t) :
    (∃ (c : Instr) (queue : List Instr) (choices : Nat),
      exec c { s with pending := queue, choices := choices } = .next t) ∨ t = s.tick := by
  unfold step at h
  split at h
  · exact .inl ⟨_, _, s.choices, h⟩
  · split at h
    · exact .inl ⟨_, s.pending, _, h⟩
    · cases h
      exact .inr rfl

/-! ## Power-on (R21, R131) -/

/-- Settles O6. -/
theorem powerOnResetGivesResetValues : Obligations.PowerOnResetGivesResetValues := fun _ _ => rfl

/-- Settles O5: the vectors repeat one power-on value, and the points of the curve are evaluated. -/
theorem resetValues : Obligations.ResetValues := by
  refine ⟨rfl, rfl, rfl, rfl, rfl, ?entries, ?curves, ?ports, ?lanes, rfl, rfl, rfl, rfl, rfl, rfl, rfl, rfl, rfl⟩
  case entries => exact fun i => ⟨Vector.getElem_replicate i.isLt, Vector.getElem_replicate i.isLt⟩
  case curves => decide
  case ports => exact fun p => Vector.getElem_replicate p.isLt
  case lanes => exact fun k => Vector.getElem_replicate k.isLt

/-- Settles O54. -/
theorem invariantsHoldAtReset : Obligations.InvariantsHoldAtReset := by
  unfold Obligations.InvariantsHoldAtReset
  refine ⟨by decide, ?_, ?_, ?_, by decide, by decide⟩
  all_goals decide +kernel

end Sys2Proof.Machine

/-! # What a step keeps: the shared operations a predicate has to survive, and the steps made of them -/

namespace Sys2Proof.Machine

/-! ## The loss of lock before it is reported (R100, R124, R133, R139) -/

/-- The lane goes DOWN and its pair is cut; the executor has not been told yet. -/
def State.dropLane (l : Lane) (s : State) : State :=
  let s := s.updLane l fun r =>
    { link := .down 0, asm := none, counters := { r.counters with lockLosses := addSat r.counters.lockLosses 1 } }
  match l with
  | .upstream => { s with link := { s.link with upTx := s.link.upTx.cut } }
  | .thru => { s with link := { s.link with thruTx := s.link.thruTx.cut, forwarding := [] } }
  | .output p => s.updPort p Port.loseLane

theorem State.lanes_dropLane (l : Lane) (s : State) :
    (s.dropLane l).link.lanes = (s.updLane l fun r =>
      { link := .down 0, asm := none,
        counters := { r.counters with lockLosses := addSat r.counters.lockLosses 1 } }).link.lanes := by
  cases l <;> rfl

theorem State.lane_dropLane_same (l : Lane) (s : State) :
    (s.dropLane l).lane l =
      { link := .down 0, asm := none,
        counters := { (s.lane l).counters with lockLosses := addSat (s.lane l).counters.lockLosses 1 } } := by
  rw [State.lane_congr (State.lanes_dropLane l s), State.lane_updLane_same]

theorem State.lane_dropLane_other (s : State) {l m : Lane} (h : m ≠ l) : (s.dropLane l).lane m = s.lane m := by
  rw [State.lane_congr (State.lanes_dropLane l s), State.lane_updLane_other s _ h]

/-- The loss of lock drops the lane and reports it. -/
theorem State.loseLock_eq (l : Lane) (s : State) : s.loseLock l = (s.dropLane l).reportOn l := by
  have hlane : (s.updLane l fun r => { r with link := .down 0, asm := none }).countLockLoss l =
      s.updLane l fun r =>
        { link := .down 0, asm := none, counters := { r.counters with lockLosses := addSat r.counters.lockLosses 1 } } :=
    State.updLane_updLane s l _ _
  unfold State.loseLock State.dropLane
  rw [hlane]
  cases l <;> rfl

/-! ## What the queues and the reports keep -/

@[simp] theorem State.arbitrate_executor (s : State) : s.arbitrate.executor = s.executor := by rw [State.arbitrate_frame]

theorem State.joinReturn_eq_arbitrate {f : Frame} {s : State} (h : s.link.returns.length < 4) :
    s.joinReturn f = ({ s with link := { s.link with returns := s.link.returns ++ [f] } } : State).arbitrate := if_pos h

/-- A batch fault comes to a report and, where it is answered, one reply that finds a place. -/
theorem State.batchFault_cases (st : Status) (tag : BitVec 8) (addr : Addressing) (s : State) :
    (∃ c d, s.batchFault st tag addr = { s with counters := c, conditions := d })
    ∨ s.link.own.length < 4
      ∧ s.batchFault st tag addr = s.countBatchFault.joinOwn (replyFrame s.unitAddress tag (payloadOf (loneResult st))) := by
  cases addr with
  | broadcast => exact .inl ⟨_, _, rfl⟩
  | unit =>
    by_cases hplace : s.replyPlace = true
    · exact .inr ⟨of_decide_eq_true hplace, if_pos hplace⟩
    · exact .inl ⟨_, _, if_neg hplace⟩

theorem State.executorGood_of_eq {s t : State} (h : t.executor = s.executor) (hgood : s.ExecutorGood) : t.ExecutorGood := by
  unfold State.ExecutorGood at *
  rwa [h]

/-- A report changes no receive lane. -/
theorem State.lanes_reportOn (l : Lane) (s : State) : (s.reportOn l).link.lanes = s.link.lanes := by
  cases l with
  | thru | output p => rfl
  | upstream =>
    change s.reportDiscard.link.lanes = _
    unfold State.reportDiscard
    split
    · rw [State.batchFault_frame]
    · rfl
    · rfl

/-- A code error leaves the link state of its lane to the fault run (R123, R124). -/
theorem State.link_invalidCode (l : Lane) (s : State) : ((s.invalidCode l).lane l).link = (s.lane l).link := by
  have hcount : ((s.countCodeError l).lane l).link = (s.lane l).link := by simp [State.countCodeError]
  unfold State.invalidCode
  dsimp only
  split
  · exact hcount
  · rw [State.lane_congr (State.lanes_reportOn l _), State.lane_setAsm_same]
    exact hcount

/-! ## Predicates that the cue link keeps -/

/-- The operations of the receive lanes, the queues and the executor's mode, each of which keeps a predicate. -/
structure State.KeptByLink (P : State → Prop) : Prop where
  lane : ∀ {s : State} {l : Lane} (f : RxLane → RxLane), P s → (f (s.lane l)).alive = (s.lane l).alive →
    ((s.lane l).Valid → (f (s.lane l)).Valid) → P (s.updLane l f)
  report : ∀ {s : State} {c : PartCounters} {d : PartConditions}, P s → P { s with counters := c, conditions := d }
  executor : ∀ {s : State} {e : Executor}, P s →
    (s.ExecutorGood → State.ExecutorGood { s with executor := e }) → P { s with executor := e }
  joinOwn : ∀ {s : State} {f : Frame}, P s → s.link.own.length < 4 → P (s.joinOwn f)
  joinReturn : ∀ {s : State} {f : Frame}, P s → s.link.returns.length < 4 → P (s.joinReturn f)
  forward : ∀ {s : State} {f : Frame}, P s → P (s.forward f)
  endForward : ∀ {s : State}, P s → P s.endForward
  endUpstream : ∀ {s : State}, P s → P s.endUpstream
  becomeAlive : ∀ {s : State} {l : Lane}, P s → (s.lane l).alive = false → P (s.becomeAlive l)
  dropLane : ∀ {s : State} {l : Lane}, P s → P (s.dropLane l)

/-- Nothing but the link interface, the executor's mode and the part's reports differs, no output lane has gone DOWN, and
an open batch still holds one to four frames. -/
structure State.Quiet (s t : State) : Prop where
  frame : t = { s with link := t.link, executor := t.executor, counters := t.counters, conditions := t.conditions }
  alive : ∀ p, (s.lane (.output p)).alive = true → (t.lane (.output p)).alive = true
  executor : s.ExecutorGood → t.ExecutorGood

/-- A change of the queues and reports alone is quiet. -/
theorem State.Quiet.of_lanes {s t : State}
    (hframe : t = { s with link := t.link, counters := t.counters, conditions := t.conditions })
    (hlanes : t.link.lanes = s.link.lanes) : State.Quiet s t := by
  have hexecutor : t.executor = s.executor := by rw [hframe]
  refine ⟨by rw [hexecutor]; exact hframe, fun p h => ?_, State.executorGood_of_eq hexecutor⟩
  rwa [State.lane_congr hlanes]

theorem State.Quiet.trans {s t u : State} (hst : State.Quiet s t) (htu : State.Quiet t u) : State.Quiet s u :=
  ⟨by rw [htu.frame, hst.frame], fun p h => htu.alive p (hst.alive p h), fun h => htu.executor (hst.executor h)⟩

theorem State.quiet_updLane {s : State} {l : Lane} (f : RxLane → RxLane)
    (halive : (s.lane l).alive = true → (f (s.lane l)).alive = true) : State.Quiet s (s.updLane l f) := by
  refine ⟨rfl, fun p h => ?_, id⟩
  by_cases hl : Lane.output p = l
  · subst hl
    rw [State.lane_updLane_same]
    exact halive h
  · rwa [State.lane_updLane_other s f hl]

/-- The loss of a lane that no port owns is quiet. -/
theorem State.quiet_dropLane {s : State} {l : Lane} (h : ∀ p, l ≠ .output p) : State.Quiet s (s.dropLane l) := by
  have hframe : s.dropLane l = { s with link := (s.dropLane l).link } := by
    cases l with
    | upstream | thru => rfl
    | output q => exact absurd rfl (h q)
  have hexecutor : (s.dropLane l).executor = s.executor := by rw [hframe]
  exact ⟨by rw [hframe], fun p halive => by rwa [State.lane_dropLane_other s (h p).symm], State.executorGood_of_eq hexecutor⟩

theorem State.quiet_arbitrate (s : State) : State.Quiet s s.arbitrate :=
  .of_lanes (by rw [State.arbitrate_frame]) (by rw [State.arbitrate_frame])

theorem State.quiet_becomeAlive (l : Lane) (s : State) : State.Quiet s (s.becomeAlive l) := by
  have hlane : State.Quiet s (s.updLane l fun r => { r with link := .alive 0, asm := none }) :=
    State.quiet_updLane _ fun _ => rfl
  cases l with
  | upstream =>
    exact hlane.trans (State.quiet_arbitrate _)
  | thru | output p => exact hlane

/-- What every quiet change and the loss of an output lane keep, the cue link keeps. -/
theorem State.KeptByLink.of_quiet {P : State → Prop} (hquiet : ∀ {s t}, State.Quiet s t → P s → P t)
    (hdrop : ∀ {s : State} {p : PortId}, P s → P (s.dropLane (.output p))) : State.KeptByLink P where
  lane f hP halive _ := hquiet (State.quiet_updLane f fun h => halive.trans h) hP
  report := hquiet (.of_lanes rfl rfl)
  executor hP h := hquiet ⟨rfl, fun _ => id, h⟩ hP
  joinOwn hP _ := hquiet (.of_lanes (by rw [State.joinOwn_frame]) (by rw [State.joinOwn_frame])) hP
  joinReturn hP h := hquiet (.of_lanes (by rw [State.joinReturn_frame _ _ h]) (State.joinReturn_lanes _ _)) hP
  forward := hquiet (.of_lanes (by rw [State.forward_frame]) (by rw [State.forward_frame]))
  endForward := hquiet (.of_lanes (by rw [State.endForward_frame]) (by rw [State.endForward_frame]))
  endUpstream := fun {s} hP => by
    have hleave : s.link.leave.lanes = s.link.lanes := by unfold Link.leave; split <;> rfl
    exact hquiet (State.Quiet.trans (.of_lanes rfl hleave) (State.quiet_arbitrate _)) hP
  becomeAlive hP _ := hquiet (State.quiet_becomeAlive _ _) hP
  dropLane := by
    intro s l hP
    cases l with
    | output p => exact hdrop hP
    | upstream | thru => exact hquiet (State.quiet_dropLane fun p h => by cases h) hP

namespace State.KeptByLink

variable {P : State → Prop} {s : State}

theorem batchFault (hk : State.KeptByLink P) (hP : P s) (st : Status) (tag : BitVec 8) (addr : Addressing) :
    P (s.batchFault st tag addr) := by
  obtain ⟨c, d, h⟩ | ⟨hplace, h⟩ := State.batchFault_cases st tag addr s
  · rw [h]
    exact hk.report hP
  · rw [h]
    exact hk.joinOwn (hk.report hP) hplace

theorem reportOn (hk : State.KeptByLink P) (hP : P s) (l : Lane) : P (s.reportOn l) := by
  cases l with
  | thru | output p => exact hP
  | upstream =>
    change P s.reportDiscard
    unfold State.reportDiscard
    split
    · exact hk.batchFault (hk.executor hP fun _ => rfl) _ _ _
    · exact hP
    · exact hP

theorem loseLock (hk : State.KeptByLink P) (hP : P s) (l : Lane) : P (s.loseLock l) := by
  rw [State.loseLock_eq]
  exact hk.reportOn (hk.dropLane hP) l

theorem faultTime (hk : State.KeptByLink P) (hP : P s) {l : Lane} {run : Nat} (hlink : (s.lane l).link = .alive run) :
    P (s.faultTime l run) := by
  by_cases hrun : run < 15
  · rw [State.faultTime_of_lt hrun]
    refine hk.lane _ hP (by simp [RxLane.alive, hlink]) fun hvalid => ?_
    exact ⟨decide_eq_true (by omega), hvalid.2⟩
  · rw [State.faultTime_of_ge (by omega)]
    exact hk.loseLock hP l

/-- A change of a lane's assembler and counters, to a frame of at most 256 bytes, on an ALIVE lane. -/
theorem relane (hk : State.KeptByLink P) (hP : P s) {l : Lane} {run : Nat} (f : RxLane → RxLane)
    (hlink : (s.lane l).link = .alive run) (hlink' : ∃ run', (f (s.lane l)).link = .alive run' ∧ (run ≤ 15 → run' ≤ 15))
    (hasm : ((s.lane l).asm.getD []).length ≤ 256 → ((f (s.lane l)).asm.getD []).length ≤ 256) :
    P (s.updLane l f) := by
  obtain ⟨run', hlink', hrun⟩ := hlink'
  refine hk.lane f hP (by simp [RxLane.alive, hlink, hlink']) fun hvalid => ⟨?_, hasm hvalid.2⟩
  have hrange := hvalid.1
  simp only [hlink, decide_eq_true_eq] at hrange
  simp only [hlink', decide_eq_true_eq]
  exact hrun hrange

theorem setAlive (hk : State.KeptByLink P) (hP : P s) {l : Lane} {run : Nat} (hlink : (s.lane l).link = .alive run) :
    P (s.setLink l (.alive 0)) := hk.relane hP _ hlink ⟨0, rfl, fun _ => by omega⟩ id

theorem setAsm (hk : State.KeptByLink P) (hP : P s) {l : Lane} {run : Nat} (hlink : (s.lane l).link = .alive run)
    {x : Option Frame} (hx : (x.getD []).length ≤ 256) : P (s.setAsm l x) :=
  hk.relane hP _ hlink ⟨run, hlink, id⟩ fun _ => hx

/-- A count of a lane's counters changes no other part of the lane. -/
theorem count (hk : State.KeptByLink P) (hP : P s) (l : Lane) (f : LaneCounters → LaneCounters) :
    P (s.updLane l fun r => { r with counters := f r.counters }) := hk.lane _ hP rfl id

theorem countRaise (hk : State.KeptByLink P) (hP : P s) (l : Lane) (f : LaneCounters → LaneCounters) :
    P (s.updLane l fun r => { r with counters := f r.counters }).raiseLinkError := hk.report (hk.count hP l f)

theorem invalidCode (hk : State.KeptByLink P) (hP : P s) {l : Lane} {run : Nat} (hlink : (s.lane l).link = .alive run) :
    P (s.invalidCode l) := by
  have hcount : P (s.countCodeError l) := hk.countRaise hP l fun k => { k with codeErrors := addSat k.codeErrors 1 }
  unfold State.invalidCode
  dsimp only
  split
  · exact hcount
  · exact hk.reportOn (hk.setAsm hcount (run := run) (by simpa [State.countCodeError] using hlink) (by simp)) l

theorem breakFrame (hk : State.KeptByLink P) (hP : P s) {l : Lane} {run : Nat} (hlink : (s.lane l).link = .alive run)
    {next : Option Frame} (hnext : (next.getD []).length ≤ 256) : P (s.breakFrame l next) := by
  have hcount : P (s.countBadFrame l) := hk.countRaise hP l fun k => { k with badFrames := addSat k.badFrames 1 }
  exact hk.reportOn (hk.setAsm hcount (run := run) (by simpa [State.countBadFrame] using hlink) hnext) l

theorem abortFrame (hk : State.KeptByLink P) (hP : P s) {l : Lane} {run : Nat} (hlink : (s.lane l).link = .alive run) :
    P (s.abortFrame l) := by
  have hcount : P (s.countAborted l) := hk.count hP l fun k => { k with abortedFrames := addSat k.abortedFrames 1 }
  exact hk.reportOn (hk.setAsm hcount (run := run) (by simpa [State.countAborted] using hlink) (by simp)) l

theorem failFrame (hk : State.KeptByLink P) (hP : P s) {l : Lane} {run : Nat} (hlink : (s.lane l).link = .alive run)
    (why : FrameFault) : P (s.failFrame l why) := by
  rw [State.failFrame_eq]
  exact hk.reportOn (hk.report (hk.relane hP _ hlink ⟨run, hlink, id⟩ fun _ => by simp)) l

end State.KeptByLink

/-! ## Predicates that every command but a reset keeps -/

/-- The operations of the other blocks, each of which keeps a predicate too. -/
structure State.Kept (P : State → Prop) : Prop extends State.KeptByLink P where
  takeCueIntake : ∀ {s : State} {f : Frame}, P s → checkFrame .upstream f = none → frameClass f = some .cue →
    P (s.takeCueIntake f)
  takePace : ∀ {s : State} {p : PortId} {f : Frame}, P s → P (s.takePace p f)
  endDest : ∀ {s : State} {p : PortId}, P s → P (s.endDest p)
  expireTimer : ∀ {s : State} {p : PortId}, P s → P (s.expireTimer p)
  expireAtInstant : ∀ {s : State}, P s → P s.expireAtInstant
  runBatch : ∀ {s t : State} {frames : List Frame} {results : List Result}, P s →
    s.runBatch frames = (results, some t) → t.link.own.length ≤ s.link.own.length → P t

/-! ## What the requests of a batch keep -/

/-- The writes of the requests, each of which keeps a predicate of the work on a batch. -/
structure Work.Kept (Q : Work → Prop) : Prop where
  loadEntry : ∀ {w : Work} {i : EntryId} {e : RouteEntry}, Q w → e.Valid → Q (w.loadEntry i e)
  curves : ∀ {w : Work} {v : Vector Curve 8}, Q w →
    Q { w with state := { w.state with routes := { w.state.routes with curves := v } } }
  configurePort : ∀ {w : Work} {b : List Byte} {p : PortId} {c : PortConfig} {adj : Bool}, Q w →
    w.state.checkPort b = .ok (p, c, adj) →
    Q { state := w.state.updPort p (Port.configure w.state.now c), resets := w.state.ports[p].cfg.entering c ++ w.resets }
  configureSource : ∀ {w : Work} {n : Half} {x : BitVec 8}, Q w → Q { w with state := w.state.configureSource n x }
  clearConditions : ∀ {w : Work} {b : List Byte}, Q w → Q { w with state := w.state.clearConditions b }
  resetFull : ∀ {w : Work}, Q w → Q { w with state := w.state.resetFull }
  resetRuntime : ∀ {w : Work}, Q w → Q { w with state := w.state.resetRuntime }
  resetCounters : ∀ {w : Work}, Q w → Q { w with state := w.state.resetCounters }

/-- An entry that passes its checks is valid (R23, R29). -/
theorem checkEntry_valid {b : List Byte} {e : RouteEntry} {adj : Bool} (h : checkEntry b = .ok (e, adj)) : e.Valid := by
  unfold checkEntry at h
  split at h
  · dsimp only at h
    split_ifs at h with hslew hlimits hneutral
    obtain ⟨rfl, -⟩ : _ = e ∧ _ = adj := by simpa using h
    simp only [Bool.not_eq_true', Bool.not_eq_false, Bool.and_eq_true, cueLe, decide_eq_true_eq] at hneutral
    refine ⟨hneutral.1, hneutral.2, fun hkind => ?_⟩
    rename_i kind _ _ _ _ _ _
    cases kind with
    | level => exact absurd rfl hkind
    | delta | peak => rfl
  · cases h

theorem checkEntries_valid {n : Nat} {b : List Byte} {es : List RouteEntry} {adj : Bool}
    (h : checkEntries n b = .ok (es, adj)) : ∀ e ∈ es, e.Valid := by
  induction n generalizing b es adj with
  | zero =>
    cases h
    simp
  | succ n ih =>
    rw [checkEntries] at h
    cases hfirst : checkEntry b with
    | error e => simp [hfirst] at h
    | ok x =>
      cases hrest : checkEntries n (b.drop 16) with
      | error e => simp [hfirst, hrest] at h
      | ok y =>
        simp only [hfirst, hrest, Except.ok.injEq, Prod.mk.injEq] at h
        obtain ⟨rfl, -⟩ := h
        simpa using ⟨checkEntry_valid hfirst, ih hrest⟩

namespace Work.Kept

variable {Q : Work → Prop} {w w' : Work} {st : Status}

theorem loadEntries (hk : Work.Kept Q) {n : Nat} {es : List RouteEntry} (hQ : Q w) (hes : ∀ e ∈ es, e.Valid) :
    Q (Work.loadEntries n es w) := by
  induction es generalizing n w with
  | nil => exact hQ
  | cons e es ih =>
    rw [Work.loadEntries]
    refine ih ?_ fun e' hmem => hes e' (List.mem_cons_of_mem e hmem)
    split
    · exact hk.loadEntry hQ (hes e List.mem_cons_self)
    · exact hQ

theorem loadRoutes (hk : Work.Kept Q) {b : List Byte} (hQ : Q w) (h : w.loadRoutes b = .ok (st, w')) : Q w' := by
  unfold Work.loadRoutes at h
  dsimp only at h
  split_ifs at h
  cases hes : checkEntries (b.getD 1 0).toNat (b.drop 2) with
  | error e => simp only [hes, reduceCtorEq] at h
  | ok x =>
    simp only [hes, Except.ok.injEq, Prod.mk.injEq] at h
    obtain ⟨-, rfl⟩ := h
    exact hk.loadEntries hQ (checkEntries_valid hes)

/-- A write request that passes keeps what every write keeps. -/
theorem request (hk : Work.Kept Q) {k : ReqKind} {b : List Byte} (hQ : Q w) (h : w.request k b = .ok (st, w')) : Q w' := by
  by_cases hread : k.isRead = true
  · rw [Work.request_read k b w w' st hread h]
    exact hQ
  cases k with
  | readRoutes | readCurve | readPort | readSource | readHistory | readConditions | readCounters =>
    exact absurd rfl hread
  | loadRoutes => exact hk.loadRoutes hQ h
  | loadCurve =>
    simp only [Work.request, Work.loadCurve] at h
    split_ifs at h
    cases h
    exact hk.curves hQ
  | configurePort =>
    simp only [Work.request, Work.configurePort] at h
    split at h
    · cases h
    · cases h
      exact hk.configurePort hQ ‹_›
  | configureSource =>
    cases h
    exact hk.configureSource hQ
  | clearConditions =>
    simp only [Work.request, Work.clearConditions] at h
    split_ifs at h
    cases h
    exact hk.clearConditions hQ
  | resetUnit =>
    simp only [Work.request, Work.resetUnit] at h
    split at h
    · cases h
      exact hk.resetFull hQ
    · cases h
      exact hk.resetRuntime hQ
    · cases h
      exact hk.resetCounters hQ
    · cases h

theorem take (hk : Work.Kept Q) {multi alone : Bool} {r : RawRequest} (hQ : Q w)
    (h : w.take multi alone r = .ok (st, w')) : Q w' := by
  unfold Work.take at h
  split at h
  · cases h
  · split_ifs at h
    exact hk.request hQ h

theorem takeAll (hk : Work.Kept Q) {multi alone : Bool} {rs : List RawRequest} {sts : List Status} (hQ : Q w)
    (h : Work.takeAll multi alone rs w = .ok (sts, w')) : Q w' := by
  induction rs generalizing w sts with
  | nil =>
    cases h
    exact hQ
  | cons r rs ih =>
    rw [Work.takeAll] at h
    cases hfirst : w.take multi alone r with
    | error e => simp [hfirst] at h
    | ok x =>
      obtain ⟨st, w₁⟩ := x
      cases hrest : Work.takeAll multi alone rs w₁ with
      | error e => simp [hfirst, hrest] at h
      | ok y =>
        obtain ⟨sts', w₂⟩ := y
        simp only [hfirst, hrest, Except.ok.injEq, Prod.mk.injEq] at h
        obtain ⟨-, rfl⟩ := h
        exact ih (hk.take hQ hfirst) hrest

end Work.Kept

/-- The one change an answered read can make is to clear a counter group (R148, R160). -/
theorem State.answer_state (k : ReqKind) (b : List Byte) (s : State) :
    (s.answer k b).2 = s ∨ ∃ g, (s.answer k b).2 = s.clearGroup g := by
  cases k with
  | readCounters =>
    simp only [State.answer]
    split
    · exact .inl rfl
    · split
      · exact .inr ⟨_, rfl⟩
      · exact .inl rfl
  | _ => exact .inl rfl

theorem State.answerAll_cons_state (r : RawRequest) (rs : List RawRequest) (st : Status) (sts : List Status) (s : State) :
    (State.answerAll (r :: rs) (st :: sts) s).2 =
      (State.answerAll rs sts (match r.decode with
        | none => s
        | some (k, b) => (s.answer k b).2)).2 := by
  rw [State.answerAll]
  cases r.decode <;> rfl

theorem State.answerAll_keeps {P : State → Prop} (hclear : ∀ {s : State} {g : Group}, P s → P (s.clearGroup g))
    (rs : List RawRequest) (sts : List Status) {s : State} (hP : P s) : P (State.answerAll rs sts s).2 := by
  induction rs generalizing sts s with
  | nil => exact hP
  | cons r rs ih =>
    cases sts with
    | nil => exact hP
    | cons st sts =>
      rw [State.answerAll_cons_state]
      refine ih sts ?_
      split
      · exact hP
      · obtain h | ⟨g, h⟩ := State.answer_state _ _ s <;> rw [h]
        · exact hP
        · exact hclear hP

/-- A batch that is applied keeps what its writes, the resets of its records and the clearing of counters keep. -/
theorem State.runBatch_keeps {Q : Work → Prop} {P : State → Prop} {s t : State} {frames : List Frame}
    {results : List Result} (hk : Work.Kept Q) (hsettle : ∀ {w : Work}, Q w → P w.settle)
    (hclear : ∀ {s : State} {g : Group}, P s → P (s.clearGroup g)) (hQ : Q { state := s, resets := [] })
    (h : s.runBatch frames = (results, some t)) : P t := by
  unfold State.runBatch at h
  dsimp only at h
  split at h
  · cases h
  · rename_i sts w htaken
    cases h
    exact State.answerAll_keeps hclear _ sts (hsettle (hk.takeAll hQ htaken))

/-- No batch adds a reply of its own before it is answered. -/
theorem State.runBatch_own_length {s t : State} {frames : List Frame} {results : List Result}
    (h : s.runBatch frames = (results, some t)) : t.link.own.length ≤ s.link.own.length := by
  refine State.runBatch_keeps (Q := fun w => w.state.link.own.length ≤ s.link.own.length)
    (P := fun t => t.link.own.length ≤ s.link.own.length) ?_ id ?_ (le_refl _) h
  · exact
      { loadEntry := fun hQ _ => hQ, curves := id, configurePort := fun hQ _ => hQ
        configureSource := fun {w n x} hQ => by
          simp only [State.configureSource]
          split <;> exact hQ
        clearConditions := id, resetFull := fun _ => Nat.zero_le _, resetRuntime := id, resetCounters := id }
  · intro s' g hP
    cases g <;> exact hP

/-! ## From the operations to a command and to a step -/

namespace State.Kept

variable {P : State → Prop} {s t : State}

theorem replyTo (hk : State.Kept P) (hP : P s) {addr : Addressing} (hplace : addr = .unit → s.link.own.length < 4)
    (tag : BitVec 8) (results : List Result) : P (s.replyTo addr tag results) := by
  cases addr with
  | broadcast => exact hP
  | unit => exact hk.joinOwn hP (hplace rfl)

theorem closeBatch (hk : State.Kept P) (hP : P s) (tag : BitVec 8) (addr : Addressing) (frames : List Frame) :
    P (s.closeBatch tag addr frames) := by
  unfold State.closeBatch
  split_ifs with hfull
  · exact hk.report hP
  · have hplace : addr = .unit → s.link.own.length < Config.replyPlaces := by
      rintro rfl
      simpa [State.replyPlace] using hfull
    have hrefused : P s.countRefused := hk.report hP
    cases hrun : s.runBatch frames with
    | mk results applied =>
      dsimp only
      split_ifs
      · exact hk.replyTo hrefused hplace _ _
      · cases applied with
        | none => exact hk.replyTo hrefused hplace _ _
        | some t =>
          have hown := State.runBatch_own_length hrun
          exact hk.replyTo (hk.runBatch hP hrun hown) (fun h => lt_of_le_of_lt hown (hplace h)) _ _

theorem takeIdle (hk : State.Kept P) (hP : P s) (addr : Addressing) (f : Frame) : P (s.takeIdle addr f) := by
  unfold State.takeIdle
  split_ifs
  · exact hk.executor hP fun _ => rfl
  · exact hk.closeBatch (hk.executor hP fun _ => rfl) _ _ _

theorem takeRequest (hk : State.Kept P) (hP : P s) (addr : Addressing) (f : Frame) : P (s.takeRequest addr f) := by
  have hidle : P { s with executor := .idle } := hk.executor hP fun _ => rfl
  unfold State.takeRequest
  cases hmode : s.executor with
  | idle => exact hk.takeIdle hP addr f
  | opened tag addr' start frames =>
    dsimp only
    split_ifs with hmatch hroom hchain hchain
    · refine hk.executor hP fun _ => decide_eq_true ?_
      have hroom' : frames.length < 4 := hroom
      simp only [List.length_append, List.length_singleton]
      omega
    · exact hk.closeBatch hidle _ _ _
    · exact hk.batchFault (hk.executor hP fun _ => rfl) _ _ _
    · exact hk.batchFault (hk.executor hP fun _ => rfl) _ _ _
    · exact hk.takeIdle (hk.batchFault hidle _ _ _) addr f
  | draining tag addr' =>
    dsimp only
    split_ifs
    · exact hP
    · exact hidle
    · exact hk.takeIdle hidle addr f

theorem routeRequest (hk : State.Kept P) (hP : P s) (f : Frame) : P (s.routeRequest f) := by
  unfold State.routeRequest
  split
  · exact hk.takeRequest hP _ f
  · exact hk.forward (hk.takeRequest hP _ f)
  · exact hk.forward hP

/-- A frame that passes every check is routed by its lane and class. -/
theorem route (hk : State.Kept P) (hP : P s) {l : Lane} {f : Frame} (hpassed : checkFrame l f = none) :
    P (s.route l f) := by
  cases l with
  | upstream =>
    by_cases hclass : frameClass f = some .cue
    · rw [State.route_cue hclass]
      exact hk.forward (hk.takeCueIntake hP hpassed hclass)
    · rw [State.route_request hclass]
      exact hk.routeRequest hP f
  | thru =>
    change P (s.joinReturn f)
    by_cases hplace : s.link.returns.length < 4
    · exact hk.joinReturn hP hplace
    · rw [State.joinReturn_full f s hplace]
      exact hk.report hP
  | output p => exact hk.takePace hP

theorem completeFrame (hk : State.Kept P) (hP : P s) {l : Lane} {run : Nat} (hlink : (s.lane l).link = .alive run)
    (f : Frame) : P (s.completeFrame l f) := by
  unfold State.completeFrame
  split
  · exact hk.failFrame hP hlink _
  · exact hk.route (hk.setAsm hP hlink (by simp)) ‹_›

/-- A frame in assembly takes one valid symbol. -/
theorem receive_inFrame (hk : State.Kept P) (hP : P s) {l : Lane} {bytes : Frame} (hframe : s.inFrame l = some bytes)
    {sym : Symbol} (hvalid : sym.valid = true) : P (s.receive l sym) := by
  obtain ⟨⟨run, hlink⟩, -⟩ := State.inFrame_eq_some_iff.mp hframe
  have hP' : P (s.setLink l (.alive 0)) := hk.setAlive hP hlink
  have hlink' : ((s.setLink l (.alive 0)).lane l).link = .alive 0 := by simp
  rw [State.receive_inFrame hframe hvalid]
  cases sym with
  | startSym | idleSym => exact hk.breakFrame hP' hlink' (by simp)
  | data b =>
    dsimp only
    split_ifs with hroom
    · refine hk.setAsm hP' hlink' ?_
      have hroom' : bytes.length < 256 := hroom
      simpa using hroom'
    · exact hk.breakFrame hP' hlink' (by simp)
  | endSym => exact hk.completeFrame hP' hlink' bytes
  | abortSym => exact hk.abortFrame hP' hlink'
  | invalid | noSignal => cases hvalid

/-- Between frames a valid symbol of an ALIVE lane begins a frame or does nothing but clear the fault run. -/
theorem receive_between (hk : State.Kept P) (hP : P s) {l : Lane} {run : Nat} (hlink : (s.lane l).link = .alive run)
    (hasm : (s.lane l).asm = none) {sym : Symbol} (hvalid : sym.valid = true) : P (s.receive l sym) := by
  have hP' : P (s.setLink l (.alive 0)) := hk.setAlive hP hlink
  rw [State.receive_of_valid hlink hvalid]
  simp only [State.assemble, State.lane_setLink_same, hasm]
  split
  · exact hk.setAsm (run := 0) hP' (by simp) (by simp)
  · exact hP'

/-- One symbol time keeps what the operations keep. -/
theorem receive (hk : State.Kept P) (hP : P s) (l : Lane) (sym : Symbol) : P (s.receive l sym) := by
  cases hlink : (s.lane l).link with
  | down run =>
    have hdown : (s.lane l).alive = false := by simp [RxLane.alive, hlink]
    have hrun : ∀ run' ≤ 3, P (s.setLink l (.down run')) := by
      intro run' hle
      refine hk.lane _ hP (by simp [RxLane.alive, hlink]) fun hvalid => ?_
      have hasm : run ≤ 3 ∧ (s.lane l).asm = none := by simpa [hlink] using hvalid.1
      exact ⟨decide_eq_true ⟨hle, hasm.2⟩, hvalid.2⟩
    rw [State.receive_of_down hlink]
    split_ifs
    · exact hrun _ (by omega)
    · exact hk.becomeAlive hP hdown
    · exact hrun 0 (by omega)
  | alive run =>
    by_cases hvalid : sym.valid = true
    · cases hasm : (s.lane l).asm with
      | none => exact hk.receive_between hP hlink hasm hvalid
      | some bytes => exact hk.receive_inFrame hP (State.inFrame_eq_some_iff.mpr ⟨⟨run, hlink⟩, hasm⟩) hvalid
    · rw [State.receive_of_alive hlink]
      cases sym with
      | invalid =>
        exact hk.faultTime (hk.invalidCode hP hlink) ((State.link_invalidCode l s).trans hlink)
      | noSignal => exact hk.faultTime hP hlink
      | data b | startSym | endSym | abortSym | idleSym => exact absurd rfl hvalid

theorem expireBatch (hk : State.Kept P) (hP : P s) : P s.expireBatch := by
  unfold State.expireBatch
  split
  · exact hk.batchFault (hk.executor hP fun _ => rfl) _ _ _
  · exact hP
  · exact hP

/-- Every command but a reset keeps what the operations keep. -/
theorem exec (hk : State.Kept P) (hP : P s) {c : Instr} (hreset : ∀ u, c ≠ .powerOnReset u) :
    ∃ t, exec c s = .next t ∧ P t := by
  by_cases hholds : s.eventHolds c = true
  · cases hstim : c.stimulus with
    | some x => exact ⟨_, exec_of_stimulus hstim hholds, hk.receive hP x.1 x.2⟩
    | none =>
      cases c with
      | powerOnReset u => exact absurd rfl (hreset u)
      | thruTransmitEnd => exact ⟨_, congrArg Host.Outcome.next (if_pos hholds), hk.endForward hP⟩
      | sourceTimeoutExpiry => exact ⟨_, congrArg Host.Outcome.next (if_pos hholds), hk.expireAtInstant hP⟩
      | batchTimeout => exact ⟨_, congrArg Host.Outcome.next (if_pos hholds), hk.expireBatch hP⟩
      | upstreamTransmitEnd => exact ⟨_, congrArg Host.Outcome.next (if_pos hholds), hk.endUpstream hP⟩
      | intervalTimerExpiry p => exact ⟨_, congrArg Host.Outcome.next (if_pos hholds), hk.expireTimer hP⟩
      | destTransmissionEnd p => exact ⟨_, congrArg Host.Outcome.next (if_pos hholds), hk.endDest hP⟩
      | _ => cases hstim
  · exact ⟨s, exec_of_not_holds (Bool.not_eq_true _ ▸ hholds), hP⟩

/-- A predicate that holds after power-on, that the operations and one µs keep, and that the queue and the counter of
choices have no part in, is kept by every step. -/
theorem step (hk : State.Kept P) (hreset : ∀ (u : BitVec 4) (s : State), P s → P (s.pinReset u))
    (hqueue : ∀ (s : State) (queue : List Instr) (n : Nat), P s → P { s with pending := queue, choices := n })
    (htick : ∀ s : State, P s → P s.tick) (hP : P s) (h : step s = .next t) : P t := by
  obtain ⟨c, queue, n, hexec⟩ | rfl := step_cases h
  · by_cases hc : ∃ u, c = .powerOnReset u
    · obtain ⟨u, rfl⟩ := hc
      cases hexec
      exact hreset u _ (hqueue s queue n hP)
    · obtain ⟨t', ht', hP'⟩ := hk.exec (hqueue s queue n hP) (not_exists.mp hc)
      rw [hexec] at ht'
      cases ht'
      exact hP'
  · exact htick s hP

end State.Kept

end Sys2Proof.Machine

/-! # Counters (chapter 09), and the compositions of a port (chapters 03 to 06) -/

namespace Sys2Proof.Machine

/-! ## Counters (R162) -/

theorem addSat_toNat (c : Half) (n : Nat) : (addSat c n).toNat = min (c.toNat + n) 65535 := by
  rw [addSat, BitVec.toNat_ofNat]
  omega

@[simp] theorem addSat_zero (c : Half) : addSat c 0 = c :=
  BitVec.eq_of_toNat_eq (by rw [addSat_toNat]; omega)

theorem addSat_max (n : Nat) : addSat 65535 n = 65535 :=
  BitVec.eq_of_toNat_eq (by
    rw [addSat_toNat]
    exact Nat.min_eq_right (Nat.le_add_right 65535 n))

/-- A count of lost frames that may be 0 is an addition and a raise that may be none (R47). -/
theorem Port.countLost_eq (n : Nat) (p : Port) :
    p.countLost n =
      { p with counters := { p.counters with historyLost := addSat p.counters.historyLost n }
               conditions := { p.conditions with historyLost := p.conditions.historyLost || decide (0 < n) } } := by
  unfold Port.countLost
  split
  case isTrue h => simp [h]
  case isFalse h => simp [Nat.pos_of_ne_zero h]

theorem Port.countResidue_eq (n : Nat) (p : Port) :
    p.countResidue n =
      { p with
        counters := { p.counters with residueSats := addSat p.counters.residueSats n }
        conditions := { p.conditions with residueSaturated := p.conditions.residueSaturated || decide (0 < n) } } := by
  unfold Port.countResidue
  split
  case isTrue h => simp [h]
  case isFalse h => simp [Nat.pos_of_ne_zero h]

theorem Port.countSat_eq (b : Bool) (p : Port) :
    p.countSat b =
      { p with counters := { p.counters with satCompositions := addSat p.counters.satCompositions (if b then 1 else 0) }
               conditions := { p.conditions with saturated := p.conditions.saturated || b } } := by
  cases b <;> simp [Port.countSat]

theorem Port.raiseLimited_eq (b : Bool) (p : Port) :
    p.raiseLimited b = { p with conditions := { p.conditions with lagLimited := p.conditions.lagLimited || b } } := by
  cases b <;> simp [Port.raiseLimited]

/-- Settles O7. -/
theorem counterAdditionSaturates : Obligations.CounterAdditionSaturates := by
  refine ⟨addSat_toNat, addSat_max, ?lane, ?part, ?port⟩
  case lane =>
    rintro l s k raised rfl rfl
    exact ⟨rfl, rfl, rfl, rfl, rfl⟩
  case part =>
    rintro n s k c rfl rfl
    exact ⟨rfl, rfl, rfl, rfl, rfl, rfl, rfl, rfl⟩
  case port =>
    rintro n b p k c rfl rfl
    exact ⟨rfl, rfl, rfl, rfl, rfl, rfl, p.countLost_eq n, p.countResidue_eq n, p.countSat_eq b, p.raiseLimited_eq b⟩

/-! ## What a window writes (R43, R66) -/

/-- The records after a window has been written: each entry of the window left its own. -/
theorem writeRecords_map (window : List EntryId) (out : EntryId → EntryOut) (recs : Vector Runtime 96) (i : EntryId) :
    (writeRecords recs (window.map fun j => (j, out j)))[i] = if i ∈ window then (out i).record else recs[i] := by
  rw [writeRecords, List.foldl_map]
  exact foldl_set_getElem window (fun j => (out j).record) recs i

theorem WindowOut.values_map (window : List EntryId) (out : EntryId → EntryOut) :
    WindowOut.values (window.map fun j => (j, out j)) = window.map fun i => (out i).value := List.map_map

/-! ## The composition as one event (R42, R43) -/

theorem State.mayCompose_iff {s : State} {p : PortId} :
    s.mayCompose p = true ↔ s.ports[p].cfg.enable = true ∧ (s.lane (.output p)).alive = true := Bool.and_eq_true_iff

theorem State.compose_of_not_may {s : State} {p : PortId} (h : ¬ s.mayCompose p = true) (tr : Bool) :
    s.compose p tr = s := if_neg h

/-- A port that may compose writes its port and the records of its window, by whether the ring is empty. -/
theorem State.compose_of_may {s : State} {p : PortId} (h : s.mayCompose p = true) (tr : Bool) :
    s.compose p tr =
      { s with
        ports := s.ports.set p (if s.intake.ring = [] then s.composeWait p tr else s.composeRing p tr).port
        routes := { s.routes with
          records := (if s.intake.ring = [] then s.composeWait p tr else s.composeRing p tr).records } } := by
  unfold State.compose
  rw [if_pos h]
  simp only [List.isEmpty_iff]

theorem State.set_port_same (s : State) (p : PortId) (x : Port) : (s.ports.set p x)[p] = x := by simp

theorem State.compose_onlyPort_of_records {s : State} {p : PortId} (tr : Bool)
    (h : ∀ i : EntryId, i ∉ s.ports[p].cfg.window → (s.compose p tr).routes.records[i] = s.routes.records[i]) :
    State.OnlyPort p s (s.compose p tr) :=
  ⟨State.compose_frame p tr s, fun q => State.compose_port_ne p q tr s, h⟩

section Ring

variable {s : State} {p : PortId} {tr : Bool}

/-- The record that a window leaves to an entry, with a frame in the ring. -/
theorem State.composeRing_record (s : State) (p : PortId) (tr : Bool) (i : EntryId) :
    (s.composeRing p tr).records[i] =
      if i ∈ s.ports[p].cfg.window then (s.routes.entries[i].compose (s.scene p tr) s.routes.records[i]).record
      else s.routes.records[i] :=
  writeRecords_map _ (fun j => s.routes.entries[j].compose (s.scene p tr) s.routes.records[j]) _ i

/-- The record that a window leaves to an entry, with the ring empty (R110). -/
theorem State.composeWait_record (s : State) (p : PortId) (tr : Bool) (i : EntryId) :
    (s.composeWait p tr).records[i] =
      if i ∈ s.ports[p].cfg.window then (s.routes.entries[i].wait s.routes.records[i]).record
      else s.routes.records[i] :=
  writeRecords_map _ (fun j => s.routes.entries[j].wait s.routes.records[j]) _ i

/-- The entries of the window whose residue was limited (R54). -/
def State.limitedCount (s : State) (p : PortId) (tr : Bool) : Nat :=
  (s.ports[p].cfg.window.filter fun i =>
    (s.routes.entries[i].compose (s.scene p tr) s.routes.records[i]).limited).length

theorem State.countP_outs_limited (s : State) (p : PortId) (tr : Bool) :
    (s.outs p tr).countP (fun o => o.2.limited) = s.limitedCount p tr := by
  rw [State.outs, RouteTable.runWindow, List.countP_map, List.countP_eq_length_filter]
  rfl

/-- The port after a composition with a frame in the ring, field by field (R47, R48, R54, R63, R65, R66, R73, R97). -/
theorem State.composeRing_port (s : State) (p : PortId) (tr : Bool) :
    (s.composeRing p tr).port =
      { s.ports[p] with
        state := (s.frame p tr).state
        lag := (s.plan p).lag
        consumed := some (s.plan p).markAfter
        seq := if tr then s.ports[p].seq + 1 else s.ports[p].seq
        lastFrame := if tr then some (s.frame p tr) else s.ports[p].lastFrame
        tx := if tr then s.ports[p].tx.begin s.now ((s.frame p tr).bytes p false) else s.ports[p].tx
        counters := { s.ports[p].counters with
          emitted := if tr then addSat s.ports[p].counters.emitted 1 else s.ports[p].counters.emitted
          skipped := if tr then s.ports[p].counters.skipped else addSat s.ports[p].counters.skipped 1
          historyLost := addSat s.ports[p].counters.historyLost ((s.plan p).lost s.intake.ring.length)
          satCompositions := addSat s.ports[p].counters.satCompositions (if (s.frame p tr).sat then 1 else 0)
          residueSats := addSat s.ports[p].counters.residueSats (s.limitedCount p tr) }
        conditions := { s.ports[p].conditions with
          historyLost := s.ports[p].conditions.historyLost || (s.frame p tr).lost
          saturated := s.ports[p].conditions.saturated || (s.frame p tr).sat
          residueSaturated := s.ports[p].conditions.residueSaturated || decide (0 < s.limitedCount p tr)
          lagLimited := s.ports[p].conditions.lagLimited || (s.plan p).limited } } := by
  unfold State.composeRing
  simp only [Port.raiseLimited_eq, Port.countLost_eq, Port.countSat_eq, Port.countResidue_eq, State.countP_outs_limited]
  cases tr <;> rfl

/-- The frame of a composition that finds the ring empty (R96, R110). -/
def State.waitFrame (s : State) (p : PortId) : DestFrame :=
  { seq := s.ports[p].seq, state := .wait, lost := false, sat := false, lagWalk := false, targetStep := 0,
    lag := s.ports[p].lag,
    values := s.ports[p].cfg.window.map fun i => (s.routes.entries[i].wait s.routes.records[i]).value }

/-- The port after a composition with the ring empty (R43, R83, R110). -/
theorem State.composeWait_port (s : State) (p : PortId) (tr : Bool) :
    (s.composeWait p tr).port =
      { s.ports[p] with
        state := .wait
        seq := if tr then s.ports[p].seq + 1 else s.ports[p].seq
        lastFrame := if tr then some (s.waitFrame p) else s.ports[p].lastFrame
        tx := if tr then s.ports[p].tx.begin s.now ((s.waitFrame p).bytes p false) else s.ports[p].tx
        counters := { s.ports[p].counters with
          emitted := if tr then addSat s.ports[p].counters.emitted 1 else s.ports[p].counters.emitted
          skipped := if tr then s.ports[p].counters.skipped else addSat s.ports[p].counters.skipped 1 } } := by
  have hvalues : WindowOut.values (s.routes.waitWindow s.ports[p].cfg) = (s.waitFrame p).values :=
    WindowOut.values_map _ _
  simp only [State.composeWait, hvalues]
  cases tr <;> rfl

theorem State.compose_of_ring (hmay : s.mayCompose p = true) (hring : s.intake.ring ≠ []) :
    (s.compose p tr).ports[p] = (s.composeRing p tr).port
    ∧ (s.compose p tr).routes.records = (s.composeRing p tr).records := by
  simp only [State.compose_of_may hmay, if_neg hring, State.set_port_same, and_self]

theorem State.compose_of_empty (hmay : s.mayCompose p = true) (hring : s.intake.ring = []) :
    (s.compose p tr).ports[p] = (s.composeWait p tr).port
    ∧ (s.compose p tr).routes.records = (s.composeWait p tr).records := by
  simp only [State.compose_of_may hmay, if_pos hring, State.set_port_same, and_self]

end Ring

/-! ## The state a composition chooses (R83, R107, R108, R113) -/

theorem State.scene_mode (s : State) (p : PortId) (tr : Bool) :
    (s.scene p tr).mode = s.ports[p].cfg.modeAt s.silenceAge := rfl

theorem State.frame_state (s : State) (p : PortId) (tr : Bool) :
    (s.frame p tr).state = chosenState (s.scene p tr).mode (s.routes.allNeutral (s.outs p tr)) := rfl

theorem State.scene_mode_of_live {s : State} {last : Stamp} (h : s.intake.source = .live last) (p : PortId) (tr : Bool) :
    (s.scene p tr).mode = .run := by
  simp only [State.scene_mode, State.silenceAge, h, PortConfig.modeAt]

theorem State.scene_mode_of_silent {s : State} {last since : Stamp} (h : s.intake.source = .silent last since)
    (p : PortId) (tr : Bool) :
    (s.scene p tr).mode =
      match s.ports[p].cfg.role with
      | .vision => .hold
      | .sound => if since.elapsed s.now < s.ports[p].cfg.holdTime.toNat * 10000 then .hold else .settle
      | .cab => if since.elapsed s.now < s.ports[p].cfg.holdTime.toNat * 10000 then .hold else .fadeStep := by
  simp only [State.scene_mode, State.silenceAge, h, PortConfig.modeAt] <;> rfl

/-- Every LEVEL entry of a window stands at its neutral (R113). -/
theorem State.allNeutral_outs_iff (s : State) (p : PortId) (tr : Bool) :
    s.routes.allNeutral (s.outs p tr) = true ↔
      ∀ i ∈ s.ports[p].cfg.window, s.routes.entries[i].kind = .level →
        (s.routes.entries[i].compose (s.scene p tr) s.routes.records[i]).record.last = s.routes.entries[i].neutral := by
  simp only [RouteTable.allNeutral, State.outs, RouteTable.runWindow, List.all_map, List.all_eq_true, Function.comp_apply,
    Bool.or_eq_true, bne_iff_ne, beq_iff_eq, ← imp_iff_not_or]

/-- Settles O44. -/
theorem degradedStateByRoleAndAge : Obligations.DegradedStateByRoleAndAge := by
  rintro s p tr c rfl
  refine ⟨fun last hlive _ => ?_, ?_⟩
  · rw [State.frame_state, State.scene_mode_of_live hlive]
    rfl
  · rintro last since age hsilent rfl
    have hmode := State.scene_mode_of_silent hsilent p tr
    refine ⟨?_, ?_, ?_⟩
    · rintro (hvision | hage)
      · rw [State.frame_state, hmode, hvision]
        rfl
      · have hhold : (s.scene p tr).mode = .hold := by
          rw [hmode]
          simp only [if_pos hage]
          cases s.ports[p].cfg.role <;> rfl
        rw [State.frame_state, hhold]
        rfl
    · intro hsound hage
      rw [State.frame_state, hmode, hsound]
      simp only [if_neg (Nat.not_lt.mpr hage), chosenState]
    · intro hcab hage
      rw [State.frame_state, hmode, hcab]
      simp only [if_neg (Nat.not_lt.mpr hage), chosenState]
      exact if_congr (State.allNeutral_outs_iff s p tr) rfl rfl

/-! ## The plan of a composition (R44 to R48) -/

/-- The records of a segment of a list, by position. -/
theorem filterMap_range_segment {α : Type} (l : List α) (a b : Nat) :
    (List.range l.length).filterMap (fun k => if a ≤ k ∧ k < b then l[k]? else none)
      = (l.drop a).take (min b l.length - a) := by
  induction l generalizing a b with
  | nil => simp
  | cons x xs ih =>
    have hrest : (List.range xs.length).filterMap (fun k => if a ≤ k + 1 ∧ k + 1 < b then xs[k]? else none)
        = (xs.drop (a - 1)).take (min (b - 1) xs.length - (a - 1)) := by
      rw [← ih]
      refine List.filterMap_congr fun k _ => if_congr ?_ rfl rfl
      omega
    rw [List.length_cons, List.range_succ_eq_map, List.filterMap_cons, List.filterMap_map]
    simp only [Function.comp_def, List.getElem?_cons_succ, Nat.succ_eq_add_one, hrest]
    cases a with
    | succ a => cases b <;> simp
    | zero => cases b <;> simp

theorem Plan.span_reverse (pl : Plan) (ring : List Record) :
    (pl.span ring).reverse =
      (List.range ring.length).filterMap fun k => if pl.targetAge ≤ k ∧ k < pl.markAge then ring[k]? else none := by
  rw [filterMap_range_segment, Plan.span, List.reverse_reverse, Plan.spanLength]

theorem Plan.length_span (pl : Plan) (ring : List Record) :
    (pl.span ring).length = min pl.markAge ring.length - pl.targetAge := by
  simp only [Plan.span, Plan.spanLength, List.length_reverse, List.length_take, List.length_drop]
  omega

/-- A port that starts has its mark just before the target, so that its span is the target alone (R46, R84). -/
theorem State.plan_markAge_of_wait {s : State} {p : PortId} (hwait : s.ports[p].state = .wait)
    (hdepth : s.intake.ring.length ≤ 64) : (s.plan p).markAge = (s.plan p).targetAge + 1 := by
  have hmark : (s.plan p).mark = s.intake.ni - BitVec.ofNat 32 (s.plan p).targetAge - 1 := by
    simp only [State.plan, hwait, Intake.indexAt, beq_self_eq_true, if_true, Option.getD_none]
  have hage : (s.plan p).markAge = (s.intake.ni - (s.plan p).mark).toNat := rfl
  have htarget : (s.plan p).targetAge ≤ s.intake.ring.length - 1 := Nat.min_le_right _ _
  rw [hage, hmark]
  generalize (s.plan p).targetAge = a at htarget
  have hdiff : s.intake.ni - (s.intake.ni - BitVec.ofNat 32 a - 1) = BitVec.ofNat 32 (a + 1) := by
    rw [BitVec.ofNat_add, sub_sub, sub_sub_cancel]
    rfl
  rw [hdiff, BitVec.toNat_ofNat]
  omega

/-- Settles O45. -/
theorem compositionPlansItsSpan : Obligations.CompositionPlansItsSpan := by
  rintro s p pl ⟨⟨hdepth, -⟩, -⟩ hring rfl
  have htarget : (s.plan p).targetAge = min (s.plan p).lag (s.intake.ring.length - 1) := rfl
  refine ⟨htarget, rfl, ?_, rfl, Plan.span_reverse _ _, Plan.length_span _ _, rfl, rfl, fun hwait => ?_⟩
  · have hmark : (s.plan p).mark =
        (if s.ports[p].state == .wait then none else s.ports[p].consumed).getD ((s.plan p).target - 1) := rfl
    rw [hmark]
    simp only [beq_iff_eq]
    cases (if s.ports[p].state = .wait then none else s.ports[p].consumed) <;> rfl
  · have hage := State.plan_markAge_of_wait hwait hdepth
    have hlength : 0 < s.intake.ring.length := List.length_pos_of_ne_nil hring
    have hlt : (s.plan p).targetAge < s.intake.ring.length := by omega
    refine ⟨hage, ?_⟩
    have hone : (s.plan p).spanLength s.intake.ring.length = 1 := by
      rw [Plan.spanLength, hage]
      omega
    rw [Plan.span, hone, List.drop_eq_getElem_cons hlt, List.getElem?_eq_getElem hlt]
    rfl

/-! ## Lag alignment (chapter 04) -/

/-- The walk of the effective lag moves one frame toward its target (R76). -/
theorem walk_of_lt {lag target : Nat} (h : lag < target) : walk lag target = lag + 1 := if_pos h

theorem walk_of_gt {lag target : Nat} (h : target < lag) : walk lag target + 1 = lag := by
  unfold walk
  split_ifs <;> omega

theorem walk_self (lag : Nat) : walk lag lag = lag := by simp [walk]

theorem walk_le {lag target n : Nat} (hlag : lag ≤ n) (htarget : target ≤ n) : walk lag target ≤ n := by
  unfold walk
  split_ifs <;> omega

theorem State.plan_lag_of_wait {s : State} {p : PortId} (h : s.ports[p].state = .wait) :
    (s.plan p).lag = (s.targetLag p).1 := by
  simp only [State.plan, h, beq_self_eq_true, if_true]

theorem State.plan_lag_of_ne_wait {s : State} {p : PortId} (h : s.ports[p].state ≠ .wait) :
    (s.plan p).lag = walk s.ports[p].lag (s.targetLag p).1 := by
  simp only [State.plan, beq_eq_false_iff_ne.mpr h, Bool.false_eq_true, if_false]

theorem State.frame_lagWalk_iff (s : State) (p : PortId) (tr : Bool) :
    (s.frame p tr).lagWalk = true ↔ (s.plan p).lag ≠ (s.targetLag p).1 := bne_iff_ne

/-- Settles O47. -/
theorem effectiveLagWalksToItsTarget : Obligations.EffectiveLagWalksToItsTarget := by
  intro s p tr
  refine ⟨rfl, rfl, fun hwait => ⟨State.plan_lag_of_wait hwait, ?_⟩, fun hrun => ?_, s.frame_lagWalk_iff p tr, rfl⟩
  · rw [← Bool.not_eq_true, State.frame_lagWalk_iff]
    exact not_not_intro (State.plan_lag_of_wait hwait)
  · rw [State.plan_lag_of_ne_wait hrun]
    exact ⟨walk_of_lt, walk_of_gt, fun h => by rw [← h, walk_self]⟩

/-- The greatest of some values that a fold of maxima finds among the members that have one (R70). -/
theorem foldl_max_eq {α : Type} (value : α → Option Nat) (l : List α) (m greatest : Nat) (hm : m ≤ greatest)
    (hle : ∀ a ∈ l, ∀ x, value a = some x → x ≤ greatest)
    (hmem : m = greatest ∨ ∃ a ∈ l, value a = some greatest) :
    l.foldl (fun m a => match value a with | some x => max m x | none => m) m = greatest := by
  induction l generalizing m with
  | nil => simpa using hmem
  | cons a l ih =>
    rw [List.foldl_cons]
    cases hvalue : value a with
    | none =>
      refine ih m hm (fun b hb => hle b (List.mem_cons_of_mem a hb)) ?_
      refine hmem.imp_right fun ⟨b, hb, hx⟩ => ⟨b, ?_, hx⟩
      refine (List.mem_cons.mp hb).resolve_left fun h => ?_
      rw [h, hvalue] at hx
      cases hx
    | some x =>
      have hx := hle a List.mem_cons_self x hvalue
      refine ih (max m x) (by omega) (fun b hb => hle b (List.mem_cons_of_mem a hb)) ?_
      obtain rfl | ⟨b, hb, hb'⟩ := hmem
      · exact .inl (by omega)
      · obtain rfl | hb := List.mem_cons.mp hb
        · rw [hvalue] at hb'
          cases hb'
          exact .inl (by omega)
        · exact .inr ⟨b, hb, hb'⟩

/-- The latency that a port counts with among those of the slowest board (R70, R75). -/
def State.countedLatency (s : State) (p q : PortId) : Option Nat :=
  if q = p ∨ s.ports[q].cfg.enable = true then s.ports[q].latency.map BitVec.toNat else none

theorem State.latencyMax_eq_foldl (s : State) (p : PortId) :
    s.latencyMax p = (List.finRange 6).foldl
      (fun m q => match s.countedLatency p q with | some x => max m x | none => m) 0 := by
  unfold State.latencyMax
  congr 1
  funext m q
  unfold State.countedLatency
  cases s.ports[q].latency with
  | none => simp
  | some l =>
    by_cases h : q = p ∨ s.ports[q].cfg.enable = true
    · have h' : (s.ports[q].enabled || q == p) = true := by simpa [Port.enabled, or_comm] using h
      simp only [h', h, if_true, Option.map_some]
    · have h' : (s.ports[q].enabled || q == p) = false := by simpa [Port.enabled, and_comm] using h
      simp only [h', h, if_false, Bool.false_eq_true]

theorem State.countedLatency_eq_some_iff {s : State} {p q : PortId} {x : Nat} :
    s.countedLatency p q = some x ↔
      (q = p ∨ s.ports[q].cfg.enable = true) ∧ ∃ y : Half, s.ports[q].latency = some y ∧ y.toNat = x := by
  unfold State.countedLatency
  split <;> simp_all

/-- The greatest latency is the one that a counted port has and no counted port exceeds. -/
theorem State.latencyMax_eq {s : State} {p : PortId} {greatest : Nat}
    (hmem : ∃ q : PortId, (q = p ∨ s.ports[q].cfg.enable = true)
      ∧ ∃ x : Half, s.ports[q].latency = some x ∧ x.toNat = greatest)
    (hle : ∀ (q : PortId) (x : Half), (q = p ∨ s.ports[q].cfg.enable = true) → s.ports[q].latency = some x →
      x.toNat ≤ greatest) : s.latencyMax p = greatest := by
  rw [State.latencyMax_eq_foldl]
  refine foldl_max_eq _ _ 0 greatest (Nat.zero_le _) (fun q _ x hx => ?_) ?_
  · obtain ⟨hcounted, y, hy, rfl⟩ := State.countedLatency_eq_some_iff.mp hx
    exact hle q y hcounted hy
  · obtain ⟨q, hq⟩ := hmem
    exact .inr ⟨q, List.mem_finRange q, State.countedLatency_eq_some_iff.mpr hq⟩

theorem State.targetLag_of_manual {s : State} {p : PortId} (h : s.ports[p].cfg.lagMode = .manual) :
    s.targetLag p = (s.ports[p].cfg.manualLag.toNat, false) := by simp only [State.targetLag, h]

theorem State.targetLag_of_unknown {s : State} {p : PortId} (h : s.ports[p].cfg.lagMode = .auto)
    (hlatency : s.ports[p].latency = none) : s.targetLag p = (0, false) := by
  simp only [State.targetLag, h, hlatency]

theorem limitLag_eq (t : Nat) :
    (if Config.maxLag < t then (Config.maxLag, true) else (t, false)) = (min t 48, decide (48 < t)) := by
  have hmax : Config.maxLag = 48 := rfl
  rw [hmax]
  split_ifs with hlimit
  · simp [hlimit, hlimit.le]
  · simp [hlimit, Nat.le_of_not_lt hlimit]

/-- In AUTO with a known latency the target is the difference in frames, limited to 48 (R71 to R73). -/
theorem State.targetLag_of_auto {s : State} {p : PortId} {l : Half} (h : s.ports[p].cfg.lagMode = .auto)
    (hlatency : s.ports[p].latency = some l) {t : Nat}
    (ht : t = framesOf (latencyDifference (s.latencyMax p) l.toNat s.ports[p].cfg.trim.toInt) s.intake.e16.toNat) :
    s.targetLag p = (min t 48, decide (48 < t)) := by
  subst ht
  simp only [State.targetLag, h, hlatency]
  exact limitLag_eq _

theorem State.targetLag_le {s : State} {p : PortId} (h : s.ports[p].cfg.manualLag.toNat ≤ 48) :
    (s.targetLag p).1 ≤ 48 := by
  cases hmode : s.ports[p].cfg.lagMode with
  | manual =>
    rw [State.targetLag_of_manual hmode]
    exact h
  | auto =>
    cases hlatency : s.ports[p].latency with
    | none =>
      rw [State.targetLag_of_unknown hmode hlatency]
      exact Nat.zero_le _
    | some l =>
      rw [State.targetLag_of_auto hmode hlatency rfl]
      exact Nat.min_le_right _ _

/-- Settles O46. -/
theorem targetLagAlignsTheSlowestBoard : Obligations.TargetLagAlignsTheSlowestBoard := by
  intro s p
  refine ⟨State.targetLag_of_manual, State.targetLag_of_unknown, ?_, State.targetLag_le⟩
  rintro l lmax d t hmode ⟨x, hlatency, rfl⟩ hmem hle hd rfl
  have hmax := State.latencyMax_eq hmem hle
  have hdiff : latencyDifference (s.latencyMax p) x.toNat s.ports[p].cfg.trim.toInt = d := by
    rw [hmax, latencyDifference]
    omega
  refine ⟨State.targetLag_of_auto hmode hlatency (by rw [hdiff]; rfl), ?_⟩
  obtain ⟨q, -, y, -, rfl⟩ := hmem
  have hy := y.isLt
  obtain ⟨-, htrim⟩ := cue_range s.ports[p].cfg.trim
  omega

end Sys2Proof.Machine

/-! # The bytes of frames (chapters 07 and 10): the checks of a completed frame and the frames a lane sends -/

namespace Sys2Proof.Machine

/-! ## The checks of R128 -/

theorem frameClass_eq_some_iff {f : Frame} {c : FrameClass} :
    frameClass f = some c ↔ (f.getD 0 0).toNat % 128 = c.code.toNat := by
  have hcode : ((f.getD 0 0).extractLsb' 0 7).toNat = (f.getD 0 0).toNat % 128 := by
    rw [BitVec.extractLsb'_toNat, Nat.shiftRight_zero]
  unfold frameClass
  rw [hcode]
  generalize (f.getD 0 0).toNat % 128 = n
  have hcodes : c.code.toNat = match c with | .cue => 1 | .request => 2 | .reply => 3 | .dest => 4 | .pace => 5 := by
    cases c <;> rfl
  rw [hcodes]
  split <;> cases c <;> simp_all

/-- A byte of the payload is the byte four places on in the frame. -/
theorem getD_framePayload {f : Frame} {i : Nat} (h : i < f.length - 6) : (framePayload f).getD i 0 = f.getD (4 + i) 0 := by
  simp [framePayload, h, List.getD_eq_getElem?_getD]

theorem accepts_iff (l : Lane) (c : FrameClass) :
    accepts l c = true ↔
      match l with
      | .upstream => c = .cue ∨ c = .request
      | .thru => c = .reply
      | .output _ => c = .pace := by
  cases l <;> cases c <;> simp [accepts]

/-- The content of a CUE frame: a slot count of 1..48 that its length fits (R1). -/
theorem contentOk_cue_iff {f : Frame} (hsize : 6 ≤ f.length) (hlength : frameLength f = f.length - 6) :
    contentOk f .cue = true ↔
      1 ≤ (f.getD 6 0).toNat ∧ (f.getD 6 0).toNat ≤ 48 ∧ f.length = 10 + 2 * (f.getD 6 0).toNat := by
  by_cases hcount : 2 < f.length - 6
  · have hbyte : (framePayload f).getD 2 0 = f.getD 6 0 := getD_framePayload hcount
    simp only [contentOk, hbyte, hlength, Bool.and_eq_true, decide_eq_true_eq]
    omega
  · have hpayload : (framePayload f).length ≤ 2 := by
      rw [framePayload, List.length_take]
      omega
    have hzero : (framePayload f).getD 2 0 = 0 := List.getD_eq_default _ _ hpayload
    simp only [contentOk, hzero, Bool.and_eq_true, decide_eq_true_eq]
    constructor
    · rintro ⟨⟨h, -⟩, -⟩
      cases h
    · omega

theorem contentOk_pace_iff {f : Frame} (hsize : 6 ≤ f.length) (hlength : frameLength f = f.length - 6) :
    contentOk f .pace = true ↔ f.length = 10 := by
  simp only [contentOk, hlength, decide_eq_true_eq]
  omega

/-- The class and content checks, which a frame of good size, CRC and length comes to. -/
def classCheck (l : Lane) (f : Frame) : Option FrameFault :=
  match frameClass f with
  | none => some .cls
  | some c => if accepts l c then if contentOk f c then none else some .content else some .cls

/-- The checks before the class have passed. -/
abbrev Intact (f : Frame) : Prop := 6 ≤ f.length ∧ crc f = 0 ∧ frameLength f = f.length - 6

theorem checkFrame_of_intact (l : Lane) {f : Frame} (h : Intact f) : checkFrame l f = classCheck l f := by
  obtain ⟨hsize, hcrc, hlength⟩ := h
  unfold checkFrame
  rw [if_neg (Nat.not_lt.mpr hsize), if_neg (not_not_intro hcrc), if_neg (not_not_intro hlength)]
  rfl

theorem classCheck_eq_cls_iff {l : Lane} {f : Frame} :
    classCheck l f = some .cls ↔ ∀ c, frameClass f = some c → ¬ accepts l c = true := by
  unfold classCheck
  cases frameClass f with
  | none => simp
  | some c => by_cases ha : accepts l c = true <;> by_cases hc : contentOk f c = true <;> simp [ha, hc]

theorem classCheck_eq_content_iff {l : Lane} {f : Frame} :
    classCheck l f = some .content ↔ ∃ c, frameClass f = some c ∧ accepts l c = true ∧ ¬ contentOk f c = true := by
  unfold classCheck
  cases frameClass f with
  | none => simp
  | some c => by_cases ha : accepts l c = true <;> by_cases hc : contentOk f c = true <;> simp [ha, hc]

theorem classCheck_eq_none_iff {l : Lane} {f : Frame} :
    classCheck l f = none ↔ ∃ c, frameClass f = some c ∧ accepts l c = true ∧ contentOk f c = true := by
  unfold classCheck
  cases frameClass f with
  | none => simp
  | some c => by_cases ha : accepts l c = true <;> by_cases hc : contentOk f c = true <;> simp [ha, hc]

theorem classCheck_late {l : Lane} {f : Frame} {why : FrameFault} (h : classCheck l f = some why) :
    why = .cls ∨ why = .content := by
  unfold classCheck at h
  split at h
  · exact .inl (Option.some.inj h).symm
  · split_ifs at h
    · exact .inr (Option.some.inj h).symm
    · exact .inl (Option.some.inj h).symm

/-- A frame that is not intact fails the first of the checks before the class. -/
theorem checkFrame_of_not_intact (l : Lane) {f : Frame} (h : ¬ Intact f) :
    checkFrame l f = if f.length < 6 then some .size else if crc f ≠ 0 then some .crc else some .length := by
  unfold checkFrame
  split_ifs with hsize hcrc hlength
  · rfl
  · rfl
  · rfl
  · exact absurd ⟨Nat.le_of_not_lt hsize, not_not.mp hcrc, not_not.mp hlength⟩ h

theorem checkFrame_size_iff (l : Lane) (f : Frame) : checkFrame l f = some .size ↔ f.length < 6 := by
  by_cases h : Intact f
  · rw [checkFrame_of_intact l h]
    exact iff_of_false (fun he => by simpa using classCheck_late he) (Nat.not_lt.mpr h.1)
  · rw [checkFrame_of_not_intact l h]
    split_ifs <;> simp_all

theorem checkFrame_crc_iff (l : Lane) (f : Frame) : checkFrame l f = some .crc ↔ 6 ≤ f.length ∧ crc f ≠ 0 := by
  by_cases h : Intact f
  · rw [checkFrame_of_intact l h]
    exact iff_of_false (fun he => by simpa using classCheck_late he) fun hc => hc.2 h.2.1
  · rw [checkFrame_of_not_intact l h]
    split_ifs with hsize hcrc
    · simp [hsize]
    · exact iff_of_true rfl ⟨Nat.le_of_not_lt hsize, hcrc⟩
    · simp_all

theorem checkFrame_length_iff (l : Lane) (f : Frame) :
    checkFrame l f = some .length ↔ 6 ≤ f.length ∧ crc f = 0 ∧ frameLength f ≠ f.length - 6 := by
  by_cases h : Intact f
  · rw [checkFrame_of_intact l h]
    exact iff_of_false (fun he => by simpa using classCheck_late he) fun hc => hc.2.2 h.2.2
  · rw [checkFrame_of_not_intact l h]
    split_ifs with hsize hcrc
    · simp [hsize]
    · exact iff_of_false (by simp) fun he => hcrc he.2.1
    · have hlength : frameLength f ≠ f.length - 6 := fun he => h ⟨Nat.le_of_not_lt hsize, not_not.mp hcrc, he⟩
      simp [Nat.le_of_not_lt hsize, not_not.mp hcrc, hlength]

/-- The result of the last two checks, or that all passed, is an intact frame's alone. -/
theorem checkFrame_iff_intact (l : Lane) (f : Frame) {x : Option FrameFault}
    (hx : x = none ∨ x = some .cls ∨ x = some .content) : checkFrame l f = x ↔ Intact f ∧ classCheck l f = x := by
  by_cases h : Intact f
  · rw [checkFrame_of_intact l h]
    exact (and_iff_right h).symm
  · rw [checkFrame_of_not_intact l h]
    refine iff_of_false (fun he => ?_) fun hand => h hand.1
    split_ifs at he <;> subst he <;> simp at hx

/-- A frame passes on a lane by one class of R129 and its content. -/
theorem checkFrame_none_iff (l : Lane) (f : Frame) :
    checkFrame l f = none ↔
      Intact f ∧ ∃ c, frameClass f = some c ∧ accepts l c = true ∧ contentOk f c = true := by
  rw [checkFrame_iff_intact l f (.inl rfl), classCheck_eq_none_iff]

/-- The classes a lane accepts, by their codes (R129, R171). -/
theorem exists_accepted_iff (l : Lane) (f : Frame) (q : FrameClass → Prop) :
    (∃ c, frameClass f = some c ∧ accepts l c = true ∧ q c) ↔
      match l with
      | .upstream => ((f.getD 0 0).toNat % 128 = 1 ∧ q .cue) ∨ ((f.getD 0 0).toNat % 128 = 2 ∧ q .request)
      | .thru => (f.getD 0 0).toNat % 128 = 3 ∧ q .reply
      | .output _ => (f.getD 0 0).toNat % 128 = 5 ∧ q .pace := by
  simp only [frameClass_eq_some_iff, accepts_iff]
  cases l with
  | upstream =>
    constructor
    · rintro ⟨c, hc, rfl | rfl, hq⟩
      · exact .inl ⟨hc, hq⟩
      · exact .inr ⟨hc, hq⟩
    · rintro (⟨hc, hq⟩ | ⟨hc, hq⟩)
      · exact ⟨.cue, hc, .inl rfl, hq⟩
      · exact ⟨.request, hc, .inr rfl, hq⟩
  | thru =>
    constructor
    · rintro ⟨c, hc, rfl, hq⟩
      exact ⟨hc, hq⟩
    · exact fun ⟨hc, hq⟩ => ⟨.reply, hc, rfl, hq⟩
  | output p =>
    constructor
    · rintro ⟨c, hc, rfl, hq⟩
      exact ⟨hc, hq⟩
    · exact fun ⟨hc, hq⟩ => ⟨.pace, hc, rfl, hq⟩

theorem contentOk_request_iff (f : Frame) : contentOk f .request = true ↔ (f.getD 1 0).toNat ≤ 15 := decide_eq_true_iff

/-- Settles O17: the checks before the class by the branches of the check, the last two by the classes a lane accepts. -/
theorem frameChecksRunInOrder : Obligations.FrameChecksRunInOrder := by
  intro l f
  refine ⟨checkFrame_size_iff l f, checkFrame_crc_iff l f, checkFrame_length_iff l f, ?cls, ?content, ?passed⟩
  case cls =>
    have hnone : (∀ c, frameClass f = some c → ¬ accepts l c = true) ↔
        ¬ ∃ c, frameClass f = some c ∧ accepts l c = true ∧ True := by simp
    rw [checkFrame_iff_intact l f (.inr (.inl rfl)), classCheck_eq_cls_iff, hnone, exists_accepted_iff, and_assoc, and_assoc]
    refine and_congr_right fun _ => and_congr_right fun _ => and_congr_right fun _ => ?_
    cases l <;> simp
  case content =>
    rw [checkFrame_iff_intact l f (.inr (.inr rfl)), classCheck_eq_content_iff, exists_accepted_iff, and_assoc, and_assoc]
    refine and_congr_right fun hsize => and_congr_right fun _ => and_congr_right fun hlength => ?_
    cases l with
    | upstream => simp only [contentOk_cue_iff hsize hlength, contentOk_request_iff, not_le]
    | thru => simp [contentOk]
    | output p => simp only [contentOk_pace_iff hsize hlength, ne_eq]
  case passed =>
    rw [checkFrame_none_iff, exists_accepted_iff, and_assoc, and_assoc]
    refine and_congr_right fun hsize => and_congr_right fun _ => and_congr_right fun hlength => ?_
    cases l with
    | upstream => simp only [contentOk_cue_iff hsize hlength, contentOk_request_iff]
    | thru => simp [contentOk]
    | output p => simp only [contentOk_pace_iff hsize hlength]

/-! ## The frames of a transmit lane (R95, R96, R125) -/

theorem length_flatMap_bytes16 (values : List Cue) : (values.flatMap bytes16).length = 2 * values.length := by
  induction values with
  | nil => rfl
  | cons v values ih =>
    rw [List.flatMap_cons, List.length_append, ih, List.length_cons]
    simp only [bytes16, List.length_cons, List.length_nil]
    omega

theorem length_withCrc (bytes : List Byte) : (withCrc bytes).length = bytes.length + 2 := List.length_append

/-- The header and payload of a DEST frame. -/
def DestFrame.body (p : PortId) (rep : Bool) (d : DestFrame) : List Byte :=
  [FrameClass.dest.code, BitVec.ofNat 8 p.val, 0, BitVec.ofNat 8 (8 + 2 * d.values.length),
    d.seq, d.state.code, byteOfBits [d.lost, d.sat, d.lagWalk, rep], BitVec.ofNat 8 d.values.length]
    ++ bytes16 d.targetStep ++ [BitVec.ofNat 8 d.lag, 0] ++ d.values.flatMap bytes16

theorem DestFrame.bytes_eq_withCrc (p : PortId) (rep : Bool) (d : DestFrame) :
    d.bytes p rep = withCrc (d.body p rep) := rfl

theorem DestFrame.length_body (p : PortId) (rep : Bool) (d : DestFrame) :
    (d.body p rep).length = 12 + 2 * d.values.length := by
  simp only [DestFrame.body, List.length_append, length_flatMap_bytes16]
  rfl

/-- The flags of a resend are those of the frame with bit 3 set (R98). -/
theorem byteOfBits_repeat (lost sat lagWalk : Bool) :
    byteOfBits [lost, sat, lagWalk, true] = byteOfBits [lost, sat, lagWalk, false] ||| 0x08 := by
  cases lost <;> cases sat <;> cases lagWalk <;> rfl

/-- A resend is the frame itself but for its REPEAT bit and its CRC (R64, R98). -/
theorem DestFrame.bytes_repeat (p : PortId) (d : DestFrame) :
    d.bytes p true =
      withCrc (((d.bytes p false).take (12 + 2 * d.values.length)).set 6 ((d.bytes p false).getD 6 0 ||| 0x08)) := by
  have htake : (d.bytes p false).take (12 + 2 * d.values.length) = d.body p false := by
    rw [← DestFrame.length_body p false d]
    exact List.take_left
  have hflags : (d.bytes p false).getD 6 0 = byteOfBits [d.lost, d.sat, d.lagWalk, false] := rfl
  rw [htake, hflags, ← byteOfBits_repeat]
  rfl

theorem toNat_byteOfBits_lt (a b c d : Bool) : (byteOfBits [a, b, c, d]).toNat < 16 := by
  cases a <;> cases b <;> cases c <;> cases d <;> decide

theorem Transmitter.cut_eq (tx : Transmitter) :
    tx.cut.sending = none ∧ tx.cut.abort = (tx.abort || tx.sending.isSome) := by
  unfold Transmitter.cut Transmitter.busy
  cases hsending : tx.sending <;> simp [hsending]

/-- A lane without the ABORT of a cut sends a frame byte by byte from its first instant. -/
theorem Transmitter.symbol_of_sending (x : Transmission) {i : Nat} (hlength : x.bytes.length ≤ 256)
    (hi : i ≤ x.bytes.length + 1) :
    ({ sending := some x, abort := false } : Transmitter).symbol (x.first + BitVec.ofNat 32 i) =
      if i = 0 then .startSym else if i = x.bytes.length + 1 then .endSym else .data (x.bytes.getD (i - 1) 0) := by
  have hsince : since (x.first + BitVec.ofNat 32 i) x.first = i := by
    rw [since, add_sub_cancel_left, BitVec.toNat_ofNat]
    omega
  simp only [Transmitter.symbol, hsince, Bool.false_eq_true, if_false]
  split_ifs
  · rfl
  · omega
  · rfl
  · rfl
  · omega

/-- Settles O25. -/
theorem transmitLaneSendsItsFrame : Obligations.TransmitLaneSendsItsFrame := by
  refine ⟨?begun, fun x i => Transmitter.symbol_of_sending x, fun now tx habort => if_pos habort, fun _ => rfl,
    Transmitter.cut_eq, ?dest⟩
  case begun =>
    intro now bytes tx
    refine ⟨_, rfl, rfl, ?_, ?_⟩
    · cases tx.abort <;> simp
    · cases tx.abort
      · simp
      · simp only [if_true, BitVec.ofNat_add]
        ac_rfl
  case dest =>
    intro p rep d
    refine ⟨?_, byteOfBits [d.lost, d.sat, d.lagWalk, rep], toNat_byteOfBits_lt _ _ _ _, ?_, ?_, ?_, ?_, ?_⟩
    · rw [DestFrame.bytes_eq_withCrc, length_withCrc, DestFrame.length_body]
      omega
    · exact getLsbD_byteOfBits _ (by decide)
    · exact getLsbD_byteOfBits _ (by decide)
    · exact getLsbD_byteOfBits _ (by decide)
    · exact getLsbD_byteOfBits _ (by decide)
    · rw [DestFrame.bytes_eq_withCrc]
      refine congrArg withCrc ?_
      unfold DestFrame.body PortState.code
      cases d.state <;> rfl

end Sys2Proof.Machine

/-! # The compositions and the events of a port (chapters 03 and 05) -/

namespace Sys2Proof.Machine

/-! ## Transmitted compositions and SKIPs (R42, R43, R63) -/

theorem State.frame_values (s : State) (p : PortId) (tr : Bool) :
    (s.frame p tr).values = s.ports[p].cfg.window.map fun i =>
      (s.routes.entries[i].compose (s.scene p tr) s.routes.records[i]).value := WindowOut.values_map _ _

theorem State.frame_sat_iff_window (s : State) (p : PortId) (tr : Bool) :
    (s.frame p tr).sat = true ↔ ∃ i ∈ s.ports[p].cfg.window,
      (s.routes.entries[i].compose (s.scene p tr) s.routes.records[i]).sat = true := by
  simp only [State.frame_sat_iff, State.outs, RouteTable.runWindow, List.mem_map, exists_exists_and_eq_and]

theorem State.frame_lost_iff (s : State) (p : PortId) (tr : Bool) :
    (s.frame p tr).lost = true ↔ s.intake.ring.length < (s.plan p).markAge := by
  refine decide_eq_true_iff.trans ?_
  rw [Plan.lost, Intake.count]
  omega

theorem State.frame_targetStep {s : State} {p : PortId} {r : Record} (h : s.intake.ring[(s.plan p).targetAge]? = some r)
    (tr : Bool) : (s.frame p tr).targetStep = r.step := by
  simp only [State.frame, h, Option.map_some, Option.getD_some]

/-- Settles O48. -/
theorem composingPortConsumesItsSpan : Obligations.ComposingPortConsumesItsSpan := by
  rintro s p tr d pl n henable halive hring rfl rfl rfl
  have hmay : s.mayCompose p = true := State.mayCompose_iff.mpr ⟨henable, halive⟩
  obtain ⟨hport, hrecords⟩ := State.compose_of_ring (tr := tr) hmay hring
  have hrecord : ∀ i : EntryId, (s.compose p tr).routes.records[i] =
      if i ∈ s.ports[p].cfg.window then (s.routes.entries[i].compose (s.scene p tr) s.routes.records[i]).record
      else s.routes.records[i] := fun i => by rw [hrecords, State.composeRing_record]
  refine ⟨rfl, fun last hlive => State.scene_mode_of_live hlive p tr, ?_, _, rfl,
    State.compose_onlyPort_of_records tr fun i hi => (hrecord i).trans (if_neg hi),
    fun i hi => (hrecord i).trans (if_pos hi), s.frame_values p tr, s.frame_sat_iff_window p tr, rfl,
    s.frame_lost_iff p tr, fun r hr => State.frame_targetStep hr tr, hport.trans (s.composeRing_port p tr)⟩
  rintro last since age hsilent rfl
  exact State.scene_mode_of_silent hsilent p tr

/-- An entry in WAIT presents its neutral as a LEVEL entry, and otherwise 0 (R110). -/
theorem RouteEntry.wait_eq (e : RouteEntry) (r : Runtime) :
    (e.wait r).value = (if e.kind = .level then e.neutral else 0)
    ∧ (e.wait r).record = (if e.kind = .level then { r with last := e.neutral } else r) := by
  unfold RouteEntry.wait
  cases e.kind <;> exact ⟨rfl, rfl⟩

/-- Settles O49. -/
theorem composingPortWaitsOnAnEmptyRing : Obligations.ComposingPortWaitsOnAnEmptyRing := by
  rintro s p tr d henable halive hring rfl
  have hmay : s.mayCompose p = true := State.mayCompose_iff.mpr ⟨henable, halive⟩
  obtain ⟨hport, hrecords⟩ := State.compose_of_empty (tr := tr) hmay hring
  have hrecord : ∀ i : EntryId, (s.compose p tr).routes.records[i] =
      if i ∈ s.ports[p].cfg.window then (s.routes.entries[i].wait s.routes.records[i]).record
      else s.routes.records[i] := fun i => by rw [hrecords, State.composeWait_record]
  have hvalues : (s.waitFrame p).values = s.ports[p].cfg.window.map fun i =>
      if s.routes.entries[i].kind = .level then s.routes.entries[i].neutral else 0 :=
    List.map_congr_left fun i _ => (RouteEntry.wait_eq _ _).1
  have hframe : s.waitFrame p = { s.waitFrame p with values := (s.waitFrame p).values } := rfl
  refine ⟨_, rfl, State.compose_onlyPort_of_records tr fun i hi => (hrecord i).trans (if_neg hi),
    fun i hi => (hrecord i).trans ((if_pos hi).trans (RouteEntry.wait_eq _ _).2), ?_⟩
  rw [hport, State.composeWait_port, hframe, hvalues]
  rfl

/-! ## REPEAT (R64, R75, R76, R98) -/

theorem State.composeRepeat_of_no_record {s : State} {p : PortId} (h : s.ports[p].lastFrame = none) :
    s.composeRepeat p = s.compose p true := by
  unfold State.composeRepeat
  split_ifs with hmay
  · simp only [h]
  · exact (State.compose_of_not_may hmay true).symm

/-- The port after a REPEAT that resends a frame. -/
def State.repeatPort (s : State) (p : PortId) (d : DestFrame) (port : Port) : Port :=
  { port with
    lag := if port.state = .wait then port.lag else walk port.lag (s.targetLag p).1
    tx := port.tx.begin s.now (d.bytes p true)
    counters := { port.counters with repeated := addSat port.counters.repeated 1 }
    conditions := { port.conditions with
      lagLimited := port.conditions.lagLimited || (decide (port.state ≠ .wait) && (s.targetLag p).2) } }

theorem State.composeRepeat_of_record {s : State} {p : PortId} {d : DestFrame} (hmay : s.mayCompose p = true)
    (h : s.ports[p].lastFrame = some d) : s.composeRepeat p = s.updPort p (s.repeatPort p d) := by
  have hport : ∀ port : Port, ({ s.repeatWalk p port with tx := port.tx.begin s.now (d.bytes p true) } : Port).countRepeated
      = s.repeatPort p d port := by
    intro port
    by_cases hwait : port.state = .wait
    · simp [State.repeatWalk, State.repeatPort, Port.countRepeated, hwait]
    · simp [State.repeatWalk, State.repeatPort, Port.countRepeated, hwait, Port.raiseLimited_eq]
  unfold State.composeRepeat
  rw [if_pos hmay]
  simp only [h, hport]

/-- Settles O50. -/
theorem repeatResendsTheLastFrame : Obligations.RepeatResendsTheLastFrame := by
  intro s p henable halive
  have hmay : s.mayCompose p = true := State.mayCompose_iff.mpr ⟨henable, halive⟩
  refine ⟨State.composeRepeat_of_no_record, DestFrame.bytes_repeat p, fun d hrecord => ?_⟩
  rw [State.composeRepeat_of_record hmay hrecord]
  exact ⟨_, rfl, rfl, fun q hq => State.ports_updPort_other s _ hq, State.ports_updPort_same s p _⟩

/-! ## The events of a port (R87 to R94) -/

@[simp] theorem State.updPort_updPort (s : State) (p : PortId) (f g : Port → Port) :
    (s.updPort p f).updPort p g = s.updPort p fun port => g (f port) := by
  simp [State.updPort]

theorem State.updPort_congr {s : State} {p : PortId} {f g : Port → Port} (h : f s.ports[p] = g s.ports[p]) :
    s.updPort p f = s.updPort p g := by
  unfold State.updPort
  rw [h]

theorem State.endDest_of_no_mark {s : State} {p : PortId} (h : s.ports[p].mark = none) :
    s.endDest p = s.updPort p fun port => { port with mark := none, tx := { port.tx with sending := none } } := by
  simp only [State.endDest, h]
  rfl

theorem State.endDest_of_mark {s : State} {p : PortId} {m : PaceMark} (h : s.ports[p].mark = some m) :
    s.endDest p =
      (s.updPort p fun port => { port with mark := none, tx := { port.tx with sending := none } }).takeMark p m := by
  simp only [State.endDest, h]
  rfl

theorem exec_destTransmissionEnd_of_reached {s : State} {p : PortId} {x : Transmission}
    (hsending : s.ports[p].tx.sending = some x) (hreached : reached s.now x.ends = true) :
    exec (.destTransmissionEnd p) s = .next (s.endDest p) := by
  have hended : s.ports[p].tx.ended s.now = true := by simpa only [Transmitter.ended, hsending] using hreached
  exact congrArg Host.Outcome.next (if_pos hended)

/-- Settles O53. -/
theorem transmissionEndTakesThePendingMark : Obligations.TransmissionEndTakesThePendingMark := by
  rintro s s₁ p x hsending hreached rfl
  rw [exec_destTransmissionEnd_of_reached hsending hreached]
  refine ⟨fun h => ?_, fun h => ?_, fun h => ?_⟩
  · rw [State.endDest_of_no_mark h]
  · rw [State.endDest_of_mark h]
    rfl
  · rw [State.endDest_of_mark h]
    rfl

/-- An expiry schedules the next one, and then passes, overruns or composes (R92, R93, R101). -/
theorem State.expireTimer_of_timer {s : State} {p : PortId} {t : Time} (h : s.ports[p].timer = some t) :
    s.expireTimer p =
      if !(s.lane (.output p)).alive then s.updPort p (Port.startTimer t)
      else if s.ports[p].tx.busy then (s.updPort p (Port.startTimer t)).updPort p Port.countTimerOverrun
      else (s.updPort p (Port.startTimer t)).compose p true := by
  have hbusy : (s.updPort p (Port.startTimer t)).ports[p].tx.busy = s.ports[p].tx.busy := by
    rw [State.ports_updPort_same]
    rfl
  simp only [State.expireTimer, h, State.lane_updPort, hbusy]

/-- Settles O52. -/
theorem timerExpiryComposesOrOverruns : Obligations.TimerExpiryComposesOrOverruns := by
  rintro s s₁ p expiry htimer hreached rfl
  have hdue : s.timerDue p = true := by simpa only [State.timerDue, htimer] using hreached
  have hexec : exec (.intervalTimerExpiry p) s = .next (s.expireTimer p) := congrArg Host.Outcome.next (if_pos hdue)
  rw [hexec, State.expireTimer_of_timer htimer]
  refine ⟨fun halive => ?_, fun halive hbusy => ?_, fun halive hbusy => ?_⟩
  · simp only [halive, Bool.not_false, if_true]
    rfl
  · simp only [halive, hbusy, Bool.not_true, Bool.false_eq_true, if_false, if_true]
    rfl
  · simp only [halive, hbusy, Bool.not_true, Bool.false_eq_true, if_false]
    rfl

/-! ## PACE_FRAME (R68, R83, R87, R88, R94) -/

/-- The fields of a good PACE frame, by their offsets in the frame. -/
theorem goodFrame_pace_fields {s : State} {p : PortId} {f : Frame} (h : s.goodFrame (.output p) .pace = some f) :
    paceWant f = (f.getD 4 0).getLsbD 0 ∧ paceAdvance f = (f.getD 4 0).getLsbD 1
    ∧ paceLatency f = if be16 f 6 = 0xFFFF then none else some (be16 f 6) := by
  obtain ⟨-, hpassed, -⟩ := State.goodFrame_eq_some_iff.mp h
  obtain ⟨-, -, hclasses⟩ := (checkFrame_none_iff (.output p) f).mp hpassed
  have hlength : f.length = 10 := by
    obtain ⟨⟨hsize, -, hfield⟩, hok⟩ := (checkFrame_none_iff (.output p) f).mp hpassed
    obtain ⟨-, hcontent⟩ := (exists_accepted_iff (.output p) f _).mp hok
    exact (contentOk_pace_iff hsize hfield).mp hcontent
  have hbyte : ∀ i < 4, (framePayload f).getD i 0 = f.getD (4 + i) 0 := fun i hi =>
    getD_framePayload (by omega)
  have hlatency : be16 (framePayload f) 2 = be16 f 6 := by
    simp only [be16, hbyte 2 (by decide), hbyte 3 (by decide)]
  refine ⟨?_, ?_, ?_⟩
  · rw [paceWant, hbyte 0 (by decide)]
  · rw [paceAdvance, hbyte 0 (by decide)]
  · rw [paceLatency, hlatency]

/-- The state in which the latency a PACE frame declares has been recorded (R68). -/
def State.paceRecorded (p : PortId) (f : Frame) (s : State) : State :=
  s.updPort p fun port => { port with latency := paceLatency f }

theorem State.ports_paceRecorded_same (p : PortId) (f : Frame) (s : State) :
    (s.paceRecorded p f).ports[p] = { s.ports[p] with latency := paceLatency f } := State.ports_updPort_same s p _

theorem State.takePace_of_disabled {s : State} {p : PortId} {f : Frame} (h : s.ports[p].cfg.enable = false) :
    s.takePace p f = s.paceRecorded p f := by
  have hoff : (s.paceRecorded p f).ports[p].enabled = false := by rw [State.ports_paceRecorded_same]; exact h
  exact if_pos (by rw [Bool.not_eq_true']; exact hoff)

/-- An enabled port takes a PACE frame by its pacing mode. -/
theorem State.takePace_of_enabled {s : State} {p : PortId} {f : Frame} (h : s.ports[p].cfg.enable = true) :
    s.takePace p f =
      match s.ports[p].cfg.pacing with
      | .timer => s.paceRecorded p f
      | .locked => (s.paceRecorded p f).updPort p (Port.startTimer s.now)
      | .peer =>
        match paceWant f, paceAdvance f with
        | false, false => s.paceRecorded p f
        | false, true => (s.paceRecorded p f).compose p false
        | true, true => (s.paceRecorded p f).wantFrame p .wantAdvance
        | true, false => (s.paceRecorded p f).wantFrame p .want := by
  have hon : (!(s.paceRecorded p f).ports[p].enabled) = false := by
    rw [State.ports_paceRecorded_same, Bool.not_eq_false']
    exact h
  have hpacing : (s.paceRecorded p f).ports[p].cfg.pacing = s.ports[p].cfg.pacing := by
    rw [State.ports_paceRecorded_same]
  unfold State.paceRecorded at hon hpacing ⊢
  simp only [State.takePace, hon, hpacing, Bool.false_eq_true, if_false] <;> rfl

section Enabled

variable {s : State} {p : PortId} {f : Frame}

theorem State.takePace_of_timer (henable : s.ports[p].cfg.enable = true) (h : s.ports[p].cfg.pacing = .timer) :
    s.takePace p f = s.paceRecorded p f := by
  rw [State.takePace_of_enabled henable, h]

theorem State.takePace_of_locked (henable : s.ports[p].cfg.enable = true) (h : s.ports[p].cfg.pacing = .locked) :
    s.takePace p f = (s.paceRecorded p f).updPort p (Port.startTimer s.now) := by
  rw [State.takePace_of_enabled henable, h]

theorem State.takePace_of_no_flags (henable : s.ports[p].cfg.enable = true) (h : s.ports[p].cfg.pacing = .peer)
    (hwant : paceWant f = false) (hadvance : paceAdvance f = false) : s.takePace p f = s.paceRecorded p f := by
  rw [State.takePace_of_enabled henable, h, hwant, hadvance]

theorem State.takePace_of_advance (henable : s.ports[p].cfg.enable = true) (h : s.ports[p].cfg.pacing = .peer)
    (hwant : paceWant f = false) (hadvance : paceAdvance f = true) :
    s.takePace p f = (s.paceRecorded p f).compose p false := by
  rw [State.takePace_of_enabled henable, h, hwant, hadvance]

/-- A WANT frame gives the mark of its ADVANCE flag (R87). -/
theorem State.takePace_of_want (henable : s.ports[p].cfg.enable = true) (h : s.ports[p].cfg.pacing = .peer)
    (hwant : paceWant f = true) :
    s.takePace p f = (s.paceRecorded p f).wantFrame p (if paceAdvance f then .wantAdvance else .want) := by
  rw [State.takePace_of_enabled henable, h, hwant]
  cases paceAdvance f <;> rfl

end Enabled

theorem State.wantFrame_of_idle {s : State} {p : PortId} (h : s.ports[p].tx.busy = false) (advance : Bool) :
    s.wantFrame p (if advance then .wantAdvance else .want) =
      if advance then s.compose p true else s.composeRepeat p := by
  unfold State.wantFrame
  rw [if_neg (by rw [h]; decide)]
  cases advance <;> rfl

theorem State.wantFrame_of_busy {s : State} {p : PortId} (h : s.ports[p].tx.busy = true) (m : PaceMark) :
    s.wantFrame p m = s.updPort p (Port.pendMark m) := if_pos h

/-- A pending mark is replaced, and the one replaced is an overrun (R88). -/
theorem Port.pendMark_eq (m : PaceMark) (port : Port) :
    port.pendMark m =
      { port with
        mark := some m
        counters := { port.counters with
          paceOverruns := addSat port.counters.paceOverruns (if port.mark.isSome then 1 else 0) }
        conditions := { port.conditions with paceOverrun := port.conditions.paceOverrun || port.mark.isSome } } := by
  unfold Port.pendMark
  cases port.mark.isSome <;> simp [Port.countPaceOverrun]

theorem exec_paceFrame_of_good {s : State} {p : PortId} {f : Frame} (h : s.goodFrame (.output p) .pace = some f) :
    exec (.paceFrame p) s = .next ((s.endFrame (.output p)).takePace p f) := by
  change execPaceFrame p s = _
  simp only [execPaceFrame, h]

/-- Settles O51: each clause is one branch of how the port takes the frame. -/
theorem paceFrameIsTakenByModeAndFlags : Obligations.PaceFrameIsTakenByModeAndFlags := by
  rintro s s₁ p f hgood rfl
  obtain ⟨hwant, hadvance, hlatency⟩ := goodFrame_pace_fields hgood
  rw [exec_paceFrame_of_good hgood, ← hwant, ← hadvance]
  -- The END of the frame changes no port, so the port is read in the state before it.
  let u := s.endFrame (.output p)
  have hs₁ : (u.updPort p fun port => { port with latency := paceLatency f }) = u.paceRecorded p f := rfl
  have hport : (u.paceRecorded p f).ports[p] = { s.ports[p] with latency := paceLatency f } :=
    State.ports_paceRecorded_same p f u
  have hbusy : (u.paceRecorded p f).ports[p].tx.busy = s.ports[p].tx.busy := by rw [hport]
  change State.FrameTaken (.output p) s (u.paceRecorded p f) ∧ _
  refine ⟨State.frameTaken_of_lanes rfl, rfl, fun q hq => State.ports_updPort_other u _ hq, ?_, ?_, ?_, ?_⟩
  · rw [hs₁, hport, hlatency]
  · rintro (hoff | htimer)
    · exact congrArg _ (State.takePace_of_disabled (s := u) hoff)
    · by_cases henable : s.ports[p].cfg.enable = true
      · exact congrArg _ (State.takePace_of_timer (s := u) henable htimer)
      · exact congrArg _ (State.takePace_of_disabled (s := u) (Bool.not_eq_true _ ▸ henable))
  · intro henable hlocked
    refine congrArg _ ((State.takePace_of_locked (s := u) henable hlocked).trans (State.updPort_congr ?_))
    rw [hport]
    rfl
  · intro henable hpeer
    refine ⟨fun hflags => ?_, fun hflags => ?_, fun hflags => ?_, fun hflags => ?_⟩
    · exact congrArg _ (State.takePace_of_no_flags (s := u) henable hpeer hflags.1 hflags.2)
    · exact congrArg _ (State.takePace_of_advance (s := u) henable hpeer hflags.1 hflags.2)
    · rw [State.takePace_of_want (s := u) henable hpeer hflags.1,
        State.wantFrame_of_idle (hbusy.trans hflags.2), hs₁]
    · rw [State.takePace_of_want (s := u) henable hpeer hflags.1,
        State.wantFrame_of_busy (hbusy.trans hflags.2), hs₁]
      refine congrArg _ (State.updPort_congr ?_)
      rw [Port.pendMark_eq, hport]

end Sys2Proof.Machine

/-! # What every step keeps: the intake, the route table, the windows and the executor -/

namespace Sys2Proof.Machine

/-! ## Predicates that the events of a port keep -/

/-- The three events of a port, each of which keeps a predicate. -/
structure State.KeptByPort (P : State → Prop) : Prop where
  takePace : ∀ {s : State} {p : PortId} {f : Frame}, P s → P (s.takePace p f)
  endDest : ∀ {s : State} {p : PortId}, P s → P (s.endDest p)
  expireTimer : ∀ {s : State} {p : PortId}, P s → P (s.expireTimer p)

section PortEvents

variable {P : State → Prop}
  (hupd : ∀ {s : State} {p : PortId} {f : Port → Port}, (∀ port, (f port).cfg = port.cfg) → P s → P (s.updPort p f))
  (hcompose : ∀ {s : State} {p : PortId} {tr : Bool}, P s → P (s.compose p tr))

include hupd hcompose

theorem State.composeRepeat_keeps {s : State} {p : PortId} (hP : P s) : P (s.composeRepeat p) := by
  by_cases hmay : s.mayCompose p = true
  · cases hrecord : s.ports[p].lastFrame with
    | none =>
      rw [State.composeRepeat_of_no_record hrecord]
      exact hcompose hP
    | some d =>
      rw [State.composeRepeat_of_record hmay hrecord]
      exact hupd (fun _ => rfl) hP
  · have hidle : s.composeRepeat p = s := if_neg hmay
    rwa [hidle]

theorem State.takeMark_keeps {s : State} {p : PortId} (m : PaceMark) (hP : P s) : P (s.takeMark p m) := by
  cases m with
  | wantAdvance => exact hcompose hP
  | want => exact State.composeRepeat_keeps hupd hcompose hP

/-- What a composition keeps, and every change of a port that leaves its configuration, the events of a port keep. -/
theorem State.KeptByPort.of_compose : State.KeptByPort P where
  takePace := fun {s p f} hP => by
    have hrecorded : P (s.paceRecorded p f) := hupd (fun _ => rfl) hP
    by_cases henable : s.ports[p].cfg.enable = true
    · rw [State.takePace_of_enabled henable]
      split
      · exact hrecorded
      · exact hupd (fun _ => rfl) hrecorded
      · split
        · exact hrecorded
        · exact hcompose hrecorded
        all_goals
          unfold State.wantFrame
          split
          · exact hupd (fun port => by rw [Port.pendMark_eq]) hrecorded
          · exact State.takeMark_keeps hupd hcompose _ hrecorded
    · rw [State.takePace_of_disabled (Bool.not_eq_true _ ▸ henable)]
      exact hrecorded
  endDest := fun {s p} hP => by
    cases hmark : s.ports[p].mark with
    | none =>
      rw [State.endDest_of_no_mark hmark]
      exact hupd (fun _ => rfl) hP
    | some m =>
      rw [State.endDest_of_mark hmark]
      exact State.takeMark_keeps hupd hcompose m (hupd (fun _ => rfl) hP)
  expireTimer := fun {s p} hP => by
    cases htimer : s.ports[p].timer with
    | none =>
      have hidle : s.expireTimer p = s := by simp only [State.expireTimer, htimer]
      rwa [hidle]
    | some t =>
      have hstarted : P (s.updPort p (Port.startTimer t)) := hupd (fun _ => rfl) hP
      rw [State.expireTimer_of_timer htimer]
      split_ifs
      · exact hstarted
      · exact hupd (fun _ => rfl) hstarted
      · exact hcompose hstarted

end PortEvents

/-! ## What the source timeout and its configuration leave -/

/-- The expiry of the source timeout changes the source state and the part's reports alone. -/
theorem State.expireAtInstant_cases (s : State) :
    s.expireAtInstant = s
    ∨ ∃ last start, s.intake.source = .live last
      ∧ s.expireAtInstant = { s with intake := { s.intake with source := .silent last start } }.countSilent := by
  unfold State.expireAtInstant
  cases hsource : s.intake.source with
  | live last =>
    refine .inr ⟨last, .mark (s.intake.expiryInstant last), rfl, ?_⟩
    simp only [State.expireSource, Intake.silence, hsource]
  | absent => exact .inl rfl
  | silent last since => exact .inl rfl

/-- The intake with a nominal period and a timeout configured (R18). -/
def Intake.configured (nominal : Half) (timeout : BitVec 8) (i : Intake) : Intake :=
  { i with nominal := clampPeriod nominal, timeout := clampTimeout timeout, e16 := e16Of (clampPeriod nominal) }

/-- Configure Source changes the intake, and reports an expiry where the source becomes SILENT at once. -/
theorem State.configureSource_cases (nominal : Half) (timeout : BitVec 8) (s : State) :
    s.configureSource nominal timeout = { s with intake := s.intake.configured nominal timeout }
    ∨ ∃ last, s.intake.source = .live last
      ∧ s.configureSource nominal timeout =
          { s with intake := { s.intake.configured nominal timeout with
                                source := .silent last (.mark s.now) } }.countSilent := by
  unfold State.configureSource
  dsimp only
  split
  case isFalse => exact .inl rfl
  case isTrue h =>
    cases hsource : s.intake.source with
    | live last =>
      refine .inr ⟨last, rfl, ?_⟩
      simp only [State.expireSource, Intake.silence]
      rfl
    | absent => simp [Intake.timedOut, hsource] at h
    | silent last since => simp [Intake.timedOut, hsource] at h

/-! ## A command keeps the queue, the choices and the time (logs 2, 3 and 4) -/

/-- The fields that no command but a reset touches. -/
abbrev State.SameClock (s t : State) : Prop := t.pending = s.pending ∧ t.choices = s.choices ∧ t.now = s.now

theorem State.Quiet.sameClock {s t u : State} (h : State.Quiet t u) (hst : s.SameClock t) : s.SameClock u := by
  rw [h.frame]
  exact hst

theorem State.sameClock_workKept (s : State) : Work.Kept fun w => s.SameClock w.state where
  loadEntry hQ _ := hQ
  curves := id
  configurePort hQ _ := hQ
  configureSource := fun {w n x} hQ => by
    obtain h | ⟨_, -, h⟩ := State.configureSource_cases n x w.state <;> rw [h] <;> exact hQ
  clearConditions := id
  resetFull := id
  resetRuntime := id
  resetCounters := id

theorem State.sameClock_compose {s t : State} {p : PortId} {tr : Bool} (h : s.SameClock t) :
    s.SameClock (t.compose p tr) := by
  rw [State.compose_frame]
  exact h

theorem State.sameClock_kept (s : State) : State.Kept s.SameClock where
  toKeptByLink := .of_quiet State.Quiet.sameClock id
  takeCueIntake h _ _ := by
    rw [State.takeCueIntake_frame]
    exact h
  takePace := (State.KeptByPort.of_compose (fun _ => id) State.sameClock_compose).takePace
  endDest := (State.KeptByPort.of_compose (fun _ => id) State.sameClock_compose).endDest
  expireTimer := (State.KeptByPort.of_compose (fun _ => id) State.sameClock_compose).expireTimer
  expireAtInstant := fun {t} h => by
    obtain he | ⟨_, _, -, he⟩ := State.expireAtInstant_cases t <;> rw [he] <;> exact h
  runBatch h hrun _ :=
    State.runBatch_keeps s.sameClock_workKept id (fun {_ g} => by cases g <;> exact id) h hrun

/-- Settles O3. -/
theorem everyCommandAnswersNext : Obligations.EveryCommandAnswersNext := by
  intro c s
  by_cases hreset : ∃ u, c = .powerOnReset u
  · obtain ⟨u, rfl⟩ := hreset
    exact ⟨_, rfl, rfl, rfl, .inr ⟨u, rfl⟩⟩
  · obtain ⟨t, hexec, hpending, hchoices, hnow⟩ := s.sameClock_kept.exec ⟨rfl, rfl, rfl⟩ (not_exists.mp hreset)
    exact ⟨t, hexec, hpending, hchoices, .inl hnow⟩

/-! ## The executor (R141) -/

theorem State.Quiet.executorGood {s t : State} (h : State.Quiet s t) (hs : s.ExecutorGood) : t.ExecutorGood :=
  h.executor hs

theorem State.executorGood_workKept : Work.Kept fun w => w.state.ExecutorGood where
  loadEntry hQ _ := hQ
  curves := id
  configurePort hQ _ := hQ
  configureSource := fun {w n x} hQ => by
    obtain h | ⟨_, -, h⟩ := State.configureSource_cases n x w.state <;> rw [h] <;> exact hQ
  clearConditions := id
  resetFull _ := rfl
  resetRuntime _ := rfl
  resetCounters _ := rfl

theorem State.executorGood_compose {s : State} {p : PortId} {tr : Bool} (h : s.ExecutorGood) :
    (s.compose p tr).ExecutorGood := State.executorGood_of_eq (by rw [State.compose_frame]) h

theorem State.executorGood_kept : State.Kept State.ExecutorGood where
  toKeptByLink := .of_quiet State.Quiet.executorGood id
  takeCueIntake h _ _ := State.executorGood_of_eq (by rw [State.takeCueIntake_frame]) h
  takePace := (State.KeptByPort.of_compose (fun _ => id) State.executorGood_compose).takePace
  endDest := (State.KeptByPort.of_compose (fun _ => id) State.executorGood_compose).endDest
  expireTimer := (State.KeptByPort.of_compose (fun _ => id) State.executorGood_compose).expireTimer
  expireAtInstant := fun {t} h => by
    obtain he | ⟨_, _, -, he⟩ := State.expireAtInstant_cases t <;> rw [he] <;> exact h
  runBatch h hrun _ :=
    State.runBatch_keeps State.executorGood_workKept id (fun {_ g} => by cases g <;> exact id) h hrun

/-- Settles O60. -/
theorem stepKeepsExecutorGood : Obligations.StepKeepsExecutorGood := fun _ _ =>
  State.executorGood_kept.step (fun _ _ _ => rfl) (fun _ _ _ h => h) fun _ h => h

/-! ## The windows of enabled ports (R35) -/

theorem State.windowsDisjoint_of_cfg {s t : State} (h : ∀ p : PortId, t.ports[p].cfg = s.ports[p].cfg)
    (hs : s.WindowsDisjoint) : t.WindowsDisjoint := by
  intro p q hpq hp hq
  unfold Port.enabled at hp hq
  rw [h] at hp hq
  rw [h, h]
  exact hs p q hpq hp hq

theorem State.cfg_updPort (s : State) (p : PortId) {f : Port → Port} (hf : ∀ port, (f port).cfg = port.cfg) (q : PortId) :
    (s.updPort p f).ports[q].cfg = s.ports[q].cfg := by
  by_cases h : q = p
  · subst h
    rw [State.ports_updPort_same, hf]
  · rw [State.ports_updPort_other s f h]

theorem State.cfg_compose (s : State) (p : PortId) (tr : Bool) (q : PortId) :
    (s.compose p tr).ports[q].cfg = s.ports[q].cfg := by
  by_cases hq : q = p
  · subst hq
    by_cases hmay : s.mayCompose q = true
    · by_cases hring : s.intake.ring = []
      · rw [(State.compose_of_empty hmay hring).1, State.composeWait_port]
      · rw [(State.compose_of_ring hmay hring).1, State.composeRing_port]
    · rw [State.compose_of_not_may hmay]
  · rw [State.compose_port_ne p q tr s hq]

/-- A request that a Configure Port may take shares no entry with another enabled port's window. -/
theorem State.checkPort_ok {s : State} {b : List Byte} {p : PortId} {c : PortConfig} {adj : Bool}
    (h : s.checkPort b = .ok (p, c, adj)) :
    decodeConfig b = some (c, adj) ∧ c.count.toNat ≤ 24 ∧ c.first.toNat ≤ 95 ∧ c.first.toNat + c.count.toNat ≤ 96
    ∧ s.overlap p c = false := by
  unfold State.checkPort at h
  split_ifs at h with hport
  cases hdecode : decodeConfig b with
  | none => simp only [hdecode, reduceCtorEq] at h
  | some x =>
    simp only [hdecode] at h
    split_ifs at h with hlong hfirst hend hoverlap
    simp only [Except.ok.injEq, Prod.mk.injEq] at h
    obtain ⟨rfl, rfl, rfl⟩ := h
    exact ⟨rfl, by omega, by omega, by omega, by simpa using hoverlap⟩

theorem PortConfig.overlaps_eq_false_iff {a b : PortConfig} :
    a.overlaps b = false ↔ ∀ i ∈ a.window, i ∉ b.window := by
  simp [PortConfig.overlaps]

theorem State.overlap_eq_false_iff {s : State} {p : PortId} {c : PortConfig} :
    s.overlap p c = false ↔
      (c.enable = true → ∀ q, q ≠ p → s.ports[q].cfg.enable = true → ∀ i ∈ c.window, i ∉ s.ports[q].cfg.window) := by
  unfold State.overlap
  cases c.enable with
  | false => simp
  | true =>
    simp only [Bool.true_and, List.any_eq_false, List.mem_finRange, forall_const, Bool.and_eq_true, bne_iff_ne,
      Port.enabled, not_and, Bool.not_eq_true, PortConfig.overlaps_eq_false_iff, and_imp]

@[simp] theorem Port.configure_cfg (now : Time) (c : PortConfig) (port : Port) : (port.configure now c).cfg = c := by
  unfold Port.configure
  cases port.cfg.enable <;> cases henable : c.enable
  · rfl
  · simp only [Port.turnOn]
    cases hpacing : c.pacing <;> rfl
  · rfl
  · simp only [Port.repace]
    cases port.cfg.pacing <;> cases c.pacing <;> rfl

theorem State.windowsDisjoint_configure {s : State} {b : List Byte} {p : PortId} {c : PortConfig} {adj : Bool} {now : Time}
    (hs : s.WindowsDisjoint) (h : s.checkPort b = .ok (p, c, adj)) :
    (s.updPort p (Port.configure now c)).WindowsDisjoint := by
  obtain ⟨-, -, -, -, hoverlap⟩ := State.checkPort_ok h
  have hfree := State.overlap_eq_false_iff.mp hoverlap
  have hcfg : ∀ q, (s.updPort p (Port.configure now c)).ports[q].cfg = if q = p then c else s.ports[q].cfg := by
    intro q
    split
    case isTrue hq =>
      subst hq
      rw [State.ports_updPort_same, Port.configure_cfg]
    case isFalse hq => rw [State.ports_updPort_other s _ hq]
  intro q r hqr hq hr i hi
  unfold Port.enabled at hq hr
  rw [hcfg] at hq hr hi ⊢
  by_cases hqp : q = p
  · have hrp : r ≠ p := fun h => hqr (hqp.trans h.symm)
    rw [if_pos hqp] at hq hi
    rw [if_neg hrp] at hr ⊢
    exact hfree hq r hrp hr i hi
  · rw [if_neg hqp] at hq hi
    by_cases hrp : r = p
    · rw [if_pos hrp] at hr ⊢
      exact fun hc => hfree hr q hqp hq i hc hi
    · rw [if_neg hrp] at hr ⊢
      exact hs q r hqr hq hr i hi

/-- No port is enabled at power-on. -/
theorem State.windowsDisjoint_of_disabled {s : State} (h : ∀ p : PortId, s.ports[p].cfg.enable = false) :
    s.WindowsDisjoint := fun p _ _ hp => by
  unfold Port.enabled at hp
  rw [h p] at hp
  cases hp

theorem State.cfg_resetFull (s : State) (p : PortId) : s.resetFull.ports[p].cfg = .powerOn := by
  simp [State.resetFull, Port.resetFull, Port.powerOn]

theorem State.cfg_resetRuntime (s : State) (p : PortId) : s.resetRuntime.ports[p].cfg = s.ports[p].cfg := by
  have hport : ∀ port : Port, port.resetRuntime.cfg = port.cfg := fun port => by
    unfold Port.resetRuntime
    split <;> rfl
  simp [State.resetRuntime, hport]

theorem State.cfg_resetCounters (s : State) (p : PortId) : s.resetCounters.ports[p].cfg = s.ports[p].cfg := by
  simp [State.resetCounters, Port.resetCounters]

theorem State.windowsDisjoint_workKept : Work.Kept fun w => w.state.WindowsDisjoint where
  loadEntry hQ _ := hQ
  curves := id
  configurePort hQ h := State.windowsDisjoint_configure hQ h
  configureSource := fun {w n x} hQ => by
    obtain h | ⟨_, -, h⟩ := State.configureSource_cases n x w.state <;> rw [h] <;> exact hQ
  clearConditions hQ := State.windowsDisjoint_of_cfg (fun p => by rw [State.ports_clearConditions]) hQ
  resetFull _ := State.windowsDisjoint_of_disabled fun p => by rw [State.cfg_resetFull]; rfl
  resetRuntime hQ := State.windowsDisjoint_of_cfg (State.cfg_resetRuntime _) hQ
  resetCounters hQ := State.windowsDisjoint_of_cfg (State.cfg_resetCounters _) hQ

theorem State.windowsDisjoint_port : State.KeptByPort State.WindowsDisjoint :=
  .of_compose (fun hf => State.windowsDisjoint_of_cfg (State.cfg_updPort _ _ hf))
    (State.windowsDisjoint_of_cfg (State.cfg_compose _ _ _))

theorem State.cfg_clearGroup (s : State) (g : Group) (p : PortId) : (s.clearGroup g).ports[p].cfg = s.ports[p].cfg := by
  cases g with
  | link | part => rfl
  | port q => exact State.cfg_updPort s q (f := fun port => { port with counters := {} }) (fun _ => rfl) p

theorem State.windowsDisjoint_kept : State.Kept State.WindowsDisjoint where
  toKeptByLink := .of_quiet (fun h hs => by rw [h.frame]; exact hs)
    fun hs => State.windowsDisjoint_of_cfg (State.cfg_updPort _ _ fun _ => rfl) hs
  takeCueIntake h _ _ := by
    rw [State.takeCueIntake_frame]
    exact h
  takePace := State.windowsDisjoint_port.takePace
  endDest := State.windowsDisjoint_port.endDest
  expireTimer := State.windowsDisjoint_port.expireTimer
  expireAtInstant := fun {t} h => by
    obtain he | ⟨_, _, -, he⟩ := State.expireAtInstant_cases t <;> rw [he] <;> exact h
  runBatch h hrun _ := State.runBatch_keeps State.windowsDisjoint_workKept id
    (State.windowsDisjoint_of_cfg (State.cfg_clearGroup _ _)) h hrun

/-- Settles O58. -/
theorem stepKeepsWindowsDisjoint : Obligations.StepKeepsWindowsDisjoint := fun _ _ =>
  State.windowsDisjoint_kept.step (fun _ _ _ => State.windowsDisjoint_of_disabled fun p => by simp [State.pinReset,
    State.powerOn, Port.powerOn, PortConfig.powerOn]) (fun _ _ _ h => h) fun s h =>
    State.windowsDisjoint_of_cfg (fun p => by simp [State.tick]) h

/-! ## The route table (R23, R27, R54) -/

/-- The residue is the value it is given, held within ±2^30 (R54). -/
theorem limitResidue_toInt (x : Int) : (limitResidue x).1.toInt = clampInt (-1073741824) 1073741824 x := by
  have hkeep : ∀ y : Int, -1073741824 ≤ y → y ≤ 1073741824 → (BitVec.ofInt 32 y).toInt = y := by
    intro y hlo hhi
    rw [BitVec.toInt_ofInt, Int.bmod_def]
    omega
  unfold limitResidue clampInt Config.residueMax
  split_ifs with hhi hlo hlo
  · omega
  · rfl
  · rfl
  · exact hkeep x (by omega) (by omega)

theorem limitResidue_limited (x : Int) :
    (limitResidue x).2 = true ↔ x < -1073741824 ∨ 1073741824 < x := by
  unfold limitResidue Config.residueMax
  split_ifs with hhi hlo
  · simp [hhi]
  · simp [hlo]
  · simp only [false_iff]
    omega

theorem Runtime.fits_of_same {e : RouteEntry} {r r' : Runtime} (hresidue : r'.residue = r.residue)
    (hcarry : r'.carry = r.carry) (h : r.Fits e) : r'.Fits e := by
  unfold Runtime.Fits at *
  rwa [hresidue, hcarry]

theorem Runtime.fits_of_delta {e : RouteEntry} (hkind : e.kind = .delta) {r r' : Runtime} {x : Int}
    (hresidue : r'.residue = (limitResidue x).1) (hcarry : r'.carry = r.carry) (h : r.Fits e) : r'.Fits e := by
  obtain ⟨-, -, -, hcarry'⟩ := h
  have hlimit := clampInt_bounds (-1073741824) 1073741824 x (by decide)
  rw [← limitResidue_toInt, ← hresidue] at hlimit
  exact ⟨hlimit.1, hlimit.2, fun hne => absurd hkind hne, fun hne => hcarry.trans (hcarry' hne)⟩

theorem Runtime.fits_of_peak {e : RouteEntry} (hkind : e.kind = .peak) {r r' : Runtime}
    (hresidue : r'.residue = r.residue) (h : r.Fits e) : r'.Fits e := by
  obtain ⟨hlo, hhi, hzero, -⟩ := h
  rw [← hresidue] at hlo hhi hzero
  exact ⟨hlo, hhi, hzero, fun hne => absurd hkind hne⟩

theorem Runtime.fits_resetTo (e : RouteEntry) (neutral : Cue) : (Runtime.resetTo neutral).Fits e :=
  have hzero : (Runtime.resetTo neutral).residue.toInt = 0 := rfl
  ⟨by omega, by omega, fun _ => rfl, fun _ => rfl⟩

/-- A LEVEL entry touches its last output alone. -/
theorem RouteEntry.level_record (e : RouteEntry) (sc : Scene) (r : Runtime) :
    (e.level sc r).record = { r with last := (e.level sc r).record.last } := by
  unfold RouteEntry.level
  cases sc.mode <;> rfl

/-- A composition leaves a record that fits its entry. -/
theorem RouteEntry.compose_fits {e : RouteEntry} {r : Runtime} (sc : Scene) (h : r.Fits e) :
    (e.compose sc r).record.Fits e := by
  cases hkind : e.kind with
  | level =>
    rw [RouteEntry.compose_of_level hkind, RouteEntry.level_record]
    exact Runtime.fits_of_same rfl rfl h
  | delta =>
    by_cases hemits : sc.emits = true
    · rw [RouteEntry.compose_delta_of_emits hkind hemits]
      exact Runtime.fits_of_delta (r := r) hkind rfl rfl h
    · rw [RouteEntry.compose_delta_of_not_emits hkind hemits]
      exact Runtime.fits_of_delta (r := r) hkind rfl rfl h
  | peak =>
    by_cases hemits : sc.emits = true
    · rw [RouteEntry.compose_peak_of_emits hkind hemits]
      exact Runtime.fits_of_peak (r := r) hkind rfl h
    · rw [RouteEntry.compose_peak_of_not_emits hkind hemits]
      exact Runtime.fits_of_peak (r := r) hkind rfl h

theorem RouteEntry.wait_fits {e : RouteEntry} {r : Runtime} (h : r.Fits e) : (e.wait r).record.Fits e := by
  rw [(RouteEntry.wait_eq e r).2]
  split
  · exact Runtime.fits_of_same rfl rfl h
  · exact h

/-- A composition writes records that fit, and no entry. -/
theorem State.routesGood_compose {s : State} {p : PortId} {tr : Bool} (h : s.RoutesGood) :
    (s.compose p tr).RoutesGood := by
  intro i
  have hentries : (s.compose p tr).routes.entries = s.routes.entries := by rw [State.compose_frame]
  obtain ⟨hvalid, hfits⟩ := h i
  rw [hentries]
  refine ⟨hvalid, ?_⟩
  by_cases hmay : s.mayCompose p = true
  · by_cases hring : s.intake.ring = []
    · rw [(State.compose_of_empty hmay hring).2, State.composeWait_record]
      split
      · exact RouteEntry.wait_fits hfits
      · exact hfits
    · rw [(State.compose_of_ring hmay hring).2, State.composeRing_record]
      split
      · exact RouteEntry.compose_fits _ hfits
      · exact hfits
  · rwa [State.compose_of_not_may hmay]

theorem State.routesGood_of_eq {s t : State} (h : t.routes = s.routes) (hs : s.RoutesGood) : t.RoutesGood := by
  unfold State.RoutesGood at *
  rwa [h]

/-- Within a batch an entry whose record does not fit it is marked to be reset (R31). -/
def Work.RoutesGood (w : Work) : Prop :=
  ∀ i : EntryId, w.state.routes.entries[i].Valid
    ∧ (i ∈ w.resets ∨ w.state.routes.records[i].Fits w.state.routes.entries[i])

theorem Work.routesGood_of_state {w : Work} (h : w.state.RoutesGood) : w.RoutesGood := fun i =>
  ⟨(h i).1, .inr (h i).2⟩

theorem Work.routesGood_of_routes {w w' : Work} (hroutes : w'.state.routes = w.state.routes)
    (hresets : ∀ i ∈ w.resets, i ∈ w'.resets) (h : w.RoutesGood) : w'.RoutesGood := by
  intro i
  rw [hroutes]
  exact ⟨(h i).1, (h i).2.imp_left (hresets i)⟩

/-- A record that fits an entry fits every entry of its kind. -/
theorem Runtime.fits_of_kind {e e' : RouteEntry} {r : Runtime} (hkind : e'.kind = e.kind) (h : r.Fits e) : r.Fits e' := by
  unfold Runtime.Fits at *
  rwa [hkind]

/-- One entry written: its record is marked where source, constant or kind differs (R31, R149). -/
theorem Work.loadEntry_resets (i : EntryId) (e : RouteEntry) (w : Work) (j : EntryId) :
    j ∈ (w.loadEntry i e).resets ↔ j ∈ w.resets ∨ j = i ∧ (w.state.routes.entries[i].source ≠ e.source
      ∨ w.state.routes.entries[i].constant ≠ e.constant ∨ w.state.routes.entries[i].kind ≠ e.kind) := by
  unfold Work.loadEntry
  dsimp only
  split
  case isTrue h =>
    simp only [Bool.or_eq_true, bne_iff_ne, or_assoc] at h
    simp only [List.mem_cons, h, and_true]
    exact or_comm
  case isFalse h =>
    simp only [Bool.or_eq_true, bne_iff_ne, or_assoc] at h
    simp only [h, and_false, or_false]

theorem Work.loadEntry_entries (i : EntryId) (e : RouteEntry) (w : Work) (j : EntryId) :
    (w.loadEntry i e).state.routes.entries[j] = if j = i then e else w.state.routes.entries[j] := by
  rw [Work.loadEntry_state]
  split
  case isTrue h =>
    subst h
    simp
  case isFalse h =>
    have hne : i.val ≠ j.val := fun he => h (Fin.ext he.symm)
    change (w.state.routes.entries.set i e)[j] = _
    exact Vector.getElem_set_ne _ _ hne

theorem Work.routesGood_loadEntry {w : Work} {i : EntryId} {e : RouteEntry} (h : w.RoutesGood) (he : e.Valid) :
    (w.loadEntry i e).RoutesGood := by
  intro j
  have hrecords : (w.loadEntry i e).state.routes.records = w.state.routes.records := rfl
  rw [Work.loadEntry_entries, Work.loadEntry_resets, hrecords]
  obtain ⟨hvalid, hfits⟩ := h j
  split
  case isFalse => exact ⟨hvalid, hfits.imp_left .inl⟩
  case isTrue hj =>
    subst hj
    refine ⟨he, hfits.elim (fun hr => .inl (.inl hr)) fun hf => ?_⟩
    by_cases hkind : w.state.routes.entries[j].kind = e.kind
    · exact .inr (Runtime.fits_of_kind hkind.symm hf)
    · exact .inl (.inr ⟨rfl, .inr (.inr hkind)⟩)

/-- The resets of a batch leave records that fit. -/
theorem Work.routesGood_settle {w : Work} (h : w.RoutesGood) : w.settle.RoutesGood := by
  intro i
  have hentries : w.settle.routes.entries = w.state.routes.entries := rfl
  rw [Work.settle_record, hentries]
  refine ⟨(h i).1, ?_⟩
  split
  case isTrue => exact Runtime.fits_resetTo _ _
  case isFalse hi => exact (h i).2.resolve_left hi

theorem RouteTable.powerOn_good (i : EntryId) :
    RouteTable.powerOn.entries[i].Valid ∧ RouteTable.powerOn.records[i].Fits RouteTable.powerOn.entries[i] := by
  have hentry : RouteTable.powerOn.entries[i] = RouteEntry.powerOn := by simp [RouteTable.powerOn]
  have hrecord : RouteTable.powerOn.records[i] = Runtime.resetTo 0 := by simp [RouteTable.powerOn]
  rw [hentry, hrecord]
  exact ⟨by decide, Runtime.fits_resetTo _ _⟩

theorem RouteTable.resetRuntime_record (t : RouteTable) (i : EntryId) :
    t.resetRuntime.records[i] = .resetTo t.entries[i].neutral := by
  simp [RouteTable.resetRuntime]

theorem Work.routesGood_kept : Work.Kept Work.RoutesGood where
  loadEntry := Work.routesGood_loadEntry
  curves h := h
  configurePort := fun {w b p c adj} h _ => Work.routesGood_of_routes (w := w) rfl (fun _ => List.mem_append_right _) h
  configureSource := fun {w n x} h => by
    have hroutes : (w.state.configureSource n x).routes = w.state.routes := by
      obtain he | ⟨_, -, he⟩ := State.configureSource_cases n x w.state <;> rw [he]
      rfl
    exact Work.routesGood_of_routes (w := w) hroutes (fun _ => id) h
  clearConditions h := h
  resetFull _ := Work.routesGood_of_state RouteTable.powerOn_good
  resetRuntime := fun {w} h i => by
    have hrecord : w.state.resetRuntime.routes.records[i] = .resetTo w.state.routes.entries[i].neutral :=
      RouteTable.resetRuntime_record _ i
    refine ⟨(h i).1, .inr ?_⟩
    rw [hrecord]
    exact Runtime.fits_resetTo _ _
  resetCounters h := h

theorem State.routesGood_port : State.KeptByPort State.RoutesGood :=
  .of_compose (fun _ => State.routesGood_of_eq rfl) State.routesGood_compose

theorem State.routesGood_kept : State.Kept State.RoutesGood where
  toKeptByLink := .of_quiet (fun h hs => State.routesGood_of_eq (by rw [h.frame]) hs) (State.routesGood_of_eq rfl)
  takeCueIntake h _ _ := State.routesGood_of_eq (by rw [State.takeCueIntake_frame]) h
  takePace := State.routesGood_port.takePace
  endDest := State.routesGood_port.endDest
  expireTimer := State.routesGood_port.expireTimer
  expireAtInstant := fun {t} h => by
    have hroutes : t.expireAtInstant.routes = t.routes := by
      obtain he | ⟨_, _, -, he⟩ := State.expireAtInstant_cases t <;> rw [he]
      rfl
    exact State.routesGood_of_eq hroutes h
  runBatch h hrun _ := State.runBatch_keeps Work.routesGood_kept Work.routesGood_settle
    (fun {_ g} => State.routesGood_of_eq (by cases g <;> rfl)) (Work.routesGood_of_state h) hrun

/-- Settles O56. -/
theorem stepKeepsRoutesGood : Obligations.StepKeepsRoutesGood := fun _ _ =>
  State.routesGood_kept.step (fun _ _ _ => RouteTable.powerOn_good) (fun _ _ _ => State.routesGood_of_eq rfl)
    fun _ => State.routesGood_of_eq rfl

end Sys2Proof.Machine

/-! # The cue intake (chapter 01): acceptance, the estimate, the source timeout, and what every step keeps of it -/

namespace Sys2Proof.Machine

/-! ## The step-period estimate (R16, R17) -/

theorem updateE16_of_sample {x : Nat} (hlo : 100 ≤ x) (hhi : x ≤ 20000) (e : BitVec 32) :
    updateE16 e x = BitVec.ofNat 32 (e.toNat + x - e.toNat / 16) := if_pos ⟨hlo, hhi⟩

theorem updateE16_of_discarded {x : Nat} (h : x < 100 ∨ 20000 < x) (e : BitVec 32) : updateE16 e x = e :=
  if_neg (by omega)

theorem updateE16_toNat {e : BitVec 32} {x : Nat} (hmax : e.toNat ≤ 320000) (hlo : 100 ≤ x) (hhi : x ≤ 20000) :
    (updateE16 e x).toNat = e.toNat + x - e.toNat / 16 := by
  rw [updateE16_of_sample hlo hhi, BitVec.toNat_ofNat]
  omega

/-- The estimate never leaves its range (R17). -/
theorem updateE16_range {e : BitVec 32} (x : Nat) (hmin : 1600 ≤ e.toNat) (hmax : e.toNat ≤ 320000) :
    1600 ≤ (updateE16 e x).toNat ∧ (updateE16 e x).toNat ≤ 320000 := by
  by_cases hsample : 100 ≤ x ∧ x ≤ 20000
  · rw [updateE16_toNat hmax hsample.1 hsample.2]
    omega
  · rw [updateE16_of_discarded (by omega)]
    exact ⟨hmin, hmax⟩

/-- Settles O13. -/
theorem estimateMovesWithinItsRange : Obligations.EstimateMovesWithinItsRange := by
  refine ⟨fun e x hmin hmax hlo hhi => ⟨updateE16_toNat hmax hlo hhi, updateE16_range x hmin hmax⟩,
    fun e x h => updateE16_of_discarded h e, fun e x hlo hhi => ?_⟩
  by_cases hsample : 100 ≤ x ∧ x ≤ 20000
  · have hsettled : e.toNat + x - e.toNat / 16 = e.toNat := by omega
    rw [updateE16_of_sample hsample.1 hsample.2, hsettled, BitVec.ofNat_toNat, BitVec.setWidth_eq]
  · exact updateE16_of_discarded (by omega) e

/-! ## Elapsed times (R14, log 9) -/

theorem since_self (now : Time) : since now now = 0 := by simp [since]

/-- One µs adds one to a count that is not at its greatest. -/
theorem since_succ {now t : Time} (h : since now t < 4294967295) : since (now + 1) t = since now t + 1 := by
  unfold since at *
  rw [add_sub_right_comm, BitVec.toNat_add]
  have hone : (1 : Time).toNat = 1 := rfl
  omega

theorem Stamp.elapsed_of_held {t : Stamp} (h : t.held = true) (now : Time) : t.elapsed now = 4294967295 := if_pos h

theorem Stamp.elapsed_of_not_held {t : Stamp} (h : t.held = false) (now : Time) : t.elapsed now = since now t.at_ := by
  simp [Stamp.elapsed, h]

theorem Stamp.elapsed_le (now : Time) (t : Stamp) : t.elapsed now ≤ 4294967295 := by
  cases hheld : t.held with
  | true => exact (Stamp.elapsed_of_held hheld now).le
  | false =>
    rw [Stamp.elapsed_of_not_held hheld]
    have := (now - t.at_).isLt
    unfold since
    omega

theorem Stamp.advance_held (now : Time) (t : Stamp) :
    (t.advance now).held = (t.held || since now t.at_ == 4294967295) := rfl

/-- Settles O14: a held stamp stays held, and one that is not counts on or reaches its greatest value. -/
theorem elapsedTimeIsHeldAtItsGreatest : Obligations.ElapsedTimeIsHeldAtItsGreatest := by
  refine ⟨fun now => ⟨since_self now, rfl⟩, fun now t hbound => ?_⟩
  cases hheld : t.held with
  | true =>
    have hheld' : (t.advance (now + 1)).held = true := by rw [Stamp.advance_held, hheld, Bool.true_or]
    rw [Stamp.elapsed_of_held hheld', Stamp.elapsed_of_held hheld]
    exact ⟨rfl, .inl hheld', rfl⟩
  | false =>
    have hlt : since now t.at_ < 4294967295 := by
      rw [hheld, Stamp.elapsed_of_not_held hheld] at hbound
      simpa using hbound
    have hsucc := since_succ hlt
    rw [Stamp.elapsed_of_not_held hheld]
    cases hheld' : (t.advance (now + 1)).held with
    | true =>
      have hmax : since (now + 1) t.at_ = 4294967295 := by simpa [Stamp.advance_held, hheld] using hheld'
      rw [Stamp.elapsed_of_held hheld']
      exact ⟨by omega, .inl rfl, rfl⟩
    | false =>
      have hmax : since (now + 1) t.at_ ≠ 4294967295 := by simpa [Stamp.advance_held, hheld] using hheld'
      rw [Stamp.elapsed_of_not_held hheld']
      change since (now + 1) t.at_ = _ ∧ (false = true ∨ since (now + 1) t.at_ < _) ∧ _
      exact ⟨by omega, .inr (by omega), rfl⟩

/-! ## Acceptance of a CUE frame (R2 to R5) -/

/-- Settles O9: the intake's part is the acceptance without a sample. -/
theorem firstCueFrameIsAccepted : Obligations.FirstCueFrameIsAccepted := by
  intro s f hgood habsent
  obtain ⟨t, hexec, ht, htaken, hforwarded⟩ := exec_cueFrame_routes hgood
  have hlast : s.intake.last = none := by rw [Intake.last, habsent]
  rw [State.takeCueIntake_of_absent hlast] at ht
  exact ⟨t, hexec, ht, htaken, hforwarded⟩

/-- Settles O10: the intake's part is the acceptance with a sample, and the report of a gap where there is one. -/
theorem cueFrameAheadIsAccepted : Obligations.CueFrameAheadIsAccepted := by
  rintro s f last d sample hgood hlast rfl hmin hmax rfl
  obtain ⟨t, hexec, ht, htaken, hforwarded⟩ := exec_cueFrame_routes hgood
  have hstep : stepAccepted (s.intake.distance f) = true :=
    Bool.and_eq_true_iff.mpr ⟨decide_eq_true hmin, decide_eq_true hmax⟩
  rw [State.takeCueIntake_of_accepted hlast hstep] at ht
  refine ⟨t, hexec, ht.trans ?_, htaken, hforwarded⟩
  have hdistance : s.intake.distance f = (cueStep f - s.intake.newestStep).toNat := rfl
  rw [hdistance]
  by_cases hgap : 1 < (cueStep f - s.intake.newestStep).toNat
  · simp only [if_pos hgap, decide_eq_true hgap, Bool.or_true]
    rfl
  · simp only [if_neg hgap, decide_eq_false hgap, Bool.or_false]
    rfl

/-! ## The source timeout and its configuration (R12, R18) -/

theorem Intake.timedOut_of_live {i : Intake} {last : Stamp} (h : i.source = .live last) (now : Time) :
    i.timedOut now = decide (i.timeout.toNat * 1000 ≤ last.elapsed now) := by
  simp only [Intake.timedOut, h] <;> rfl

theorem Intake.timedOut_of_not_live {i : Intake} (h : ∀ last, i.source ≠ .live last) (now : Time) :
    i.timedOut now = false := by
  unfold Intake.timedOut
  split
  · exact absurd ‹_› (h _)
  · rfl

/-- Settles O12. -/
theorem sourceTimeoutMakesSilent : Obligations.SourceTimeoutMakesSilent := by
  intro s last hlive helapsed
  have hdue : s.intake.timedOut s.now = true := by
    rw [Intake.timedOut_of_live hlive]
    exact decide_eq_true helapsed
  have hexec : exec .sourceTimeoutExpiry s = .next s.expireAtInstant := congrArg Host.Outcome.next (if_pos hdue)
  rw [hexec]
  simp only [State.expireAtInstant, State.expireSource, Intake.silence, hlive]
  rfl

theorem clampPeriod_toNat (x : Half) : ((clampPeriod x).toNat : Int) = clampInt 100 20000 x.toNat := by
  unfold clampPeriod clampInt
  split_ifs <;> simp_all <;> omega

theorem clampTimeout_toNat (x : BitVec 8) : ((clampTimeout x).toNat : Int) = clampInt 2 250 x.toNat := by
  unfold clampTimeout clampInt
  split_ifs <;> simp_all <;> omega

theorem State.configureSource_of_expired {s : State} {nominal : Half} {timeout : BitVec 8} {last : Stamp}
    (hlive : s.intake.source = .live last) (h : (clampTimeout timeout).toNat * 1000 ≤ last.elapsed s.now) :
    s.configureSource nominal timeout =
      { s with intake := { s.intake.configured nominal timeout with
          source := .silent last (.mark s.now) } }.countSilent := by
  have hout : (s.intake.configured nominal timeout).timedOut s.now = true := by
    rw [Intake.timedOut_of_live (i := s.intake.configured nominal timeout) hlive]
    exact decide_eq_true h
  have hconfigure : s.configureSource nominal timeout =
      ({ s with intake := s.intake.configured nominal timeout } : State).expireSource (.mark s.now) := if_pos hout
  rw [hconfigure]
  simp only [State.expireSource, Intake.silence, Intake.configured, hlive]

theorem State.configureSource_of_running {s : State} {nominal : Half} {timeout : BitVec 8}
    (h : ∀ last, s.intake.source = .live last → ¬ (clampTimeout timeout).toNat * 1000 ≤ last.elapsed s.now) :
    s.configureSource nominal timeout = { s with intake := s.intake.configured nominal timeout } := by
  have hrunning : ¬ (s.intake.configured nominal timeout).timedOut s.now = true := by
    rw [Bool.not_eq_true]
    by_cases hlive : ∃ last, s.intake.source = .live last
    · obtain ⟨last, hlive⟩ := hlive
      rw [Intake.timedOut_of_live (i := s.intake.configured nominal timeout) hlive]
      exact decide_eq_false (h last hlive)
    · exact Intake.timedOut_of_not_live (i := s.intake.configured nominal timeout) (not_exists.mp hlive) _
  exact if_neg hrunning

/-- Settles O15. -/
theorem configureSourceTakesEffect : Obligations.ConfigureSourceTakesEffect := by
  intro s nominal timeout
  refine ⟨clampPeriod nominal, clampTimeout timeout, clampPeriod_toNat nominal, clampTimeout_toNat timeout,
    fun last hlive h => State.configureSource_of_expired hlive h, ?_, fun h => State.configureSource_of_running h⟩
  rintro w b rfl rfl rfl
  refine congrArg (fun x : Status => Except.ok (x, { w with state := w.state.configureSource (be16 b 0) (b.getD 2 0) })) ?_
  by_cases h : clampPeriod (be16 b 0) = be16 b 0 ∧ clampTimeout (b.getD 2 0) = b.getD 2 0
  · rw [if_pos h, h.1, h.2, bne_self_eq_false, bne_self_eq_false]
    rfl
  · rw [if_neg h, Status.ofAdjusted, if_pos]
    simpa only [Bool.or_eq_true, bne_iff_ne, ← not_and_or] using h

/-! ## The invariant of the intake (R7, R8, R9, R11, R17, R18) -/

/-- The invariant of the intake, as a predicate of the intake alone. -/
abbrev Intake.Good (i : Intake) : Prop := i.Bounded ∧ i.Numbered ∧ i.SourceFits

theorem State.intakeGood_of_eq {s t : State} (h : t.intake = s.intake) (hs : s.IntakeGood) : t.IntakeGood := by
  unfold State.IntakeGood at *
  rwa [h]

/-- A record that enters a ring: it is the newest, and the older ones move one place on, as far as there is room. -/
theorem getElem_take_cons {r : Record} {ring : List Record} {k : Nat} (h : k + 1 < ((r :: ring).take 64).length)
    (hold : k < ring.length) : ((r :: ring).take 64)[k + 1] = ring[k] := by
  rw [List.getElem_take, List.getElem_cons_succ]

theorem length_values (n : Nat) (b : List Byte) : (halves n b).length = n := by
  induction n generalizing b with
  | zero => rfl
  | succ n ih => rw [halves, List.length_cons, ih]

/-- A good CUE frame carries 1..48 values (R1). -/
theorem length_cueValues_of_good {f : Frame} (hpassed : checkFrame .upstream f = none) (hclass : frameClass f = some .cue) :
    1 ≤ (cueValues f).length ∧ (cueValues f).length ≤ 48 := by
  obtain ⟨-, c, hc, -, hcontent⟩ := (checkFrame_none_iff .upstream f).mp hpassed
  obtain rfl : FrameClass.cue = c := Option.some.inj (hclass.symm.trans hc)
  rw [cueValues, length_values]
  simp only [contentOk, Bool.and_eq_true, decide_eq_true_eq] at hcontent
  exact hcontent.1

section Accept

variable {i : Intake} {now : Time} {f : Frame} {sample : Option Nat}

theorem Intake.accept_bounded (h : i.Bounded) (hvalues : 1 ≤ (cueValues f).length ∧ (cueValues f).length ≤ 48) :
    (i.accept now f sample).Bounded := by
  obtain ⟨-, hring, hmin, hmax, hrest⟩ := h
  have hestimate : 1600 ≤ (i.accept now f sample).e16.toNat ∧ (i.accept now f sample).e16.toNat ≤ 320000 := by
    cases sample with
    | none => exact ⟨hmin, hmax⟩
    | some x => exact updateE16_range x hmin hmax
  refine ⟨List.length_take_le _ _, fun r hr => ?_, hestimate.1, hestimate.2, hrest⟩
  obtain rfl | hold := List.mem_cons.mp (List.mem_of_mem_take hr)
  · exact hvalues
  · exact hring r hold

/-- Acceptance numbers the new record after Ni, and shifts the ages of the others by one. -/
theorem Intake.accept_numbered (h : i.Numbered) (hstep : i.ring ≠ [] → cueStep f ≠ i.newestStep) :
    (i.accept now f sample).Numbered := by
  obtain ⟨hnext, hindex, hsteps, hnewest⟩ := h
  refine ⟨rfl, ?_, ?_, rfl⟩
  · rintro ⟨k, hk⟩
    cases k with
    | zero => exact (sub_zero i.nextIndex).symm
    | succ k =>
      have hold : k < i.ring.length := by
        have hk' : k + 1 < ((i.record now f :: i.ring).take 64).length := hk
        rw [List.length_take, List.length_cons] at hk'
        omega
      have hshift : i.nextIndex - BitVec.ofNat 32 (k + 1) = i.ni - BitVec.ofNat 32 k := by
        rw [hnext, BitVec.ofNat_add]
        exact add_sub_add_right_eq_sub _ _ _
      exact (congrArg Record.index (getElem_take_cons hk hold)).trans ((hindex ⟨k, hold⟩).trans hshift.symm)
  · rintro ⟨k, hk⟩
    have hk' : k + 1 < ((i.record now f :: i.ring).take 64).length := by
      have hlength : k < ((i.record now f :: i.ring).take 64).length - 1 := hk
      omega
    have hold : k < i.ring.length := by
      rw [List.length_take, List.length_cons] at hk'
      omega
    cases k with
    | zero =>
      have hhead : i.newestStep = (i.ring[0]).step := by
        rw [hnewest, List.head?_eq_getElem?, List.getElem?_eq_getElem hold]
        rfl
      have hsecond := congrArg Record.step (getElem_take_cons hk' hold)
      exact fun he => hstep (List.ne_nil_of_length_pos hold) (he.trans (hsecond.trans hhead.symm))
    | succ k =>
      have hfirst := congrArg Record.step (getElem_take_cons (Nat.lt_of_succ_lt hk') (Nat.lt_of_succ_lt hold))
      have hsecond := congrArg Record.step (getElem_take_cons hk' hold)
      exact fun he => hsteps ⟨k, by omega⟩ (hfirst.symm.trans (he.trans hsecond))

theorem Intake.accept_good (h : i.Good) (hvalues : 1 ≤ (cueValues f).length ∧ (cueValues f).length ≤ 48)
    (hstep : i.ring ≠ [] → cueStep f ≠ i.newestStep) : (i.accept now f sample).Good := by
  have hring : (i.accept now f sample).ring ≠ [] := by
    change (i.record now f :: i.ring).take 64 ≠ []
    rw [List.take_succ_cons]
    exact List.cons_ne_nil _ _
  refine ⟨Intake.accept_bounded h.1 hvalues, Intake.accept_numbered h.2.1 hstep, ?_, fun he => absurd he hring⟩
  exact iff_of_false hring fun he => by cases he

end Accept

theorem Intake.ring_eq_nil_iff {i : Intake} (h : i.Good) : i.ring = [] ↔ i.last = none := by
  rw [h.2.2.1, Intake.last]
  cases i.source <;> simp

theorem State.intakeGood_takeCueIntake {s : State} {f : Frame} (h : s.IntakeGood)
    (hvalues : 1 ≤ (cueValues f).length ∧ (cueValues f).length ≤ 48) : (s.takeCueIntake f).IntakeGood := by
  cases hlast : s.intake.last with
  | none =>
    rw [State.takeCueIntake_of_absent hlast]
    exact Intake.accept_good h hvalues fun hring => absurd ((Intake.ring_eq_nil_iff h).mpr hlast) hring
  | some last =>
    cases hstep : stepAccepted (s.intake.distance f) with
    | false =>
      rw [State.takeCueIntake_of_refused hlast hstep]
      exact h
    | true =>
      have hne : cueStep f ≠ s.intake.newestStep := fun heq =>
        absurd (Intake.stepAccepted_distance_eq_false (.inl heq)) (by rw [hstep]; decide)
      have haccept : (s.acceptedAt f last).IntakeGood := Intake.accept_good h hvalues fun _ => hne
      rw [State.takeCueIntake_of_accepted hlast hstep]
      split_ifs
      · exact haccept
      · exact haccept

theorem clampPeriod_range (x : Half) : 100 ≤ (clampPeriod x).toNat ∧ (clampPeriod x).toNat ≤ 20000 := by
  have h := clampInt_bounds 100 20000 x.toNat (by decide)
  rw [← clampPeriod_toNat] at h
  omega

theorem clampTimeout_range (x : BitVec 8) : 2 ≤ (clampTimeout x).toNat ∧ (clampTimeout x).toNat ≤ 250 := by
  have h := clampInt_bounds 2 250 x.toNat (by decide)
  rw [← clampTimeout_toNat] at h
  omega

theorem e16Of_range {n : Half} (hmin : 100 ≤ n.toNat) (hmax : n.toNat ≤ 20000) :
    1600 ≤ (e16Of n).toNat ∧ (e16Of n).toNat ≤ 320000 := by
  rw [e16Of, BitVec.toNat_ofNat]
  omega

/-- A change of a source that is not ABSENT, to another that is not, keeps the invariant. -/
theorem Intake.good_of_source {i : Intake} {x : SourceState} (h : i.Good) (hx : x = .absent ↔ i.source = .absent) :
    ({ i with source := x } : Intake).Good := ⟨h.1, h.2.1, h.2.2.1.trans hx.symm, h.2.2.2⟩

theorem Intake.configured_good {i : Intake} (nominal : Half) (timeout : BitVec 8) (h : i.Good) :
    (i.configured nominal timeout).Good := by
  obtain ⟨⟨hdepth, hvalues, -⟩, hrest⟩ := h
  obtain ⟨hmin, hmax⟩ := clampPeriod_range nominal
  obtain ⟨hemin, hemax⟩ := e16Of_range hmin hmax
  exact ⟨⟨hdepth, hvalues, hemin, hemax, hmin, hmax, clampTimeout_range timeout⟩, hrest⟩

theorem Intake.powerOn_good : Intake.powerOn.Good := by decide

/-- An intake emptied by a reset, with a period and a timeout in their ranges. -/
theorem Intake.resetRuntime_good {i : Intake} (h : i.Good) : i.resetRuntime.Good := by
  obtain ⟨⟨-, -, -, -, hmin, hmax, htimeout⟩, -⟩ := h
  obtain ⟨hemin, hemax⟩ := e16Of_range hmin hmax
  obtain ⟨⟨hdepth, hvalues, -⟩, hrest⟩ := Intake.powerOn_good
  exact ⟨⟨hdepth, hvalues, hemin, hemax, hmin, hmax, htimeout⟩, hrest⟩

theorem State.intakeGood_configureSource {s : State} (nominal : Half) (timeout : BitVec 8) (h : s.IntakeGood) :
    (s.configureSource nominal timeout).IntakeGood := by
  have hconfigured := Intake.configured_good nominal timeout h
  obtain he | ⟨last, hlive, he⟩ := State.configureSource_cases nominal timeout s
  · rw [he]
    exact hconfigured
  · rw [he]
    exact Intake.good_of_source hconfigured (iff_of_false (fun hx => by cases hx) (by
      change s.intake.source ≠ .absent
      rw [hlive]
      exact fun hx => by cases hx))

theorem State.intakeGood_workKept : Work.Kept fun w => w.state.IntakeGood where
  loadEntry h _ := h
  curves := State.intakeGood_of_eq rfl
  configurePort h _ := State.intakeGood_of_eq rfl h
  configureSource := State.intakeGood_configureSource _ _
  clearConditions := State.intakeGood_of_eq rfl
  resetFull _ := Intake.powerOn_good
  resetRuntime := Intake.resetRuntime_good
  resetCounters := State.intakeGood_of_eq rfl

theorem State.intakeGood_port : State.KeptByPort State.IntakeGood :=
  .of_compose (fun _ => State.intakeGood_of_eq rfl) (State.intakeGood_of_eq (by rw [State.compose_frame]))

theorem State.intakeGood_kept : State.Kept State.IntakeGood where
  toKeptByLink := .of_quiet (fun h => State.intakeGood_of_eq (by rw [h.frame])) (State.intakeGood_of_eq rfl)
  takeCueIntake h hpassed hclass := State.intakeGood_takeCueIntake h (length_cueValues_of_good hpassed hclass)
  takePace := State.intakeGood_port.takePace
  endDest := State.intakeGood_port.endDest
  expireTimer := State.intakeGood_port.expireTimer
  expireAtInstant := fun {s} h => by
    obtain he | ⟨last, start, hlive, he⟩ := State.expireAtInstant_cases s
    · rwa [he]
    · rw [he]
      exact Intake.good_of_source h (iff_of_false (fun hx => by cases hx) (by rw [hlive]; exact fun hx => by cases hx))
  runBatch h hrun _ := State.runBatch_keeps State.intakeGood_workKept (State.intakeGood_of_eq rfl)
    (fun {_ g} => State.intakeGood_of_eq (by cases g <;> rfl)) h hrun

theorem SourceState.advance_eq_absent_iff (now : Time) (x : SourceState) : x.advance now = .absent ↔ x = .absent := by
  cases x <;> simp [SourceState.advance]

/-- Settles O55. -/
theorem stepKeepsIntakeGood : Obligations.StepKeepsIntakeGood := fun _ _ =>
  State.intakeGood_kept.step (fun _ _ _ => Intake.powerOn_good) (fun _ _ _ => State.intakeGood_of_eq rfl)
    fun _ h => Intake.good_of_source h (SourceState.advance_eq_absent_iff _ _)

end Sys2Proof.Machine

/-! # Port configurations and what every step keeps of a port (chapters 04 and 05) -/

namespace Sys2Proof.Machine

/-! ## A configuration as it is decoded (R91, R153, R176) -/

/-- A configuration is what the bytes of a Configure Port body carry, with the adjustments of R153. -/
structure PortConfig.DecodedFrom (b : List Byte) (c : PortConfig) (adjusted : Bool) : Prop where
  enable : decodeBool (b.getD 1 0) = some c.enable
  role : decodeRole (b.getD 2 0) = some c.role
  first : c.first = b.getD 3 0
  count : c.count = b.getD 4 0
  pacing : decodePacing (b.getD 5 0) = some c.pacing
  small : (b.getD 6 0).toNat ≤ 7
  k : c.k = (b.getD 6 0).setWidth 3
  n : c.n = adjustN c.k (b.getD 7 0)
  mirror : decodeBool (b.getD 8 0) = some c.mirror
  scale : c.scale = adjustScale (b.getD 9 0)
  lagMode : decodeLagMode (b.getD 10 0) = some c.lagMode
  manualLag : c.manualLag = adjustLag (b.getD 11 0)
  trim : c.trim = be16 b 12
  holdTime : c.holdTime = b.getD 14 0
  fadeStep : c.fadeStep = adjustFade (be16 b 15)
  adjusted : adjusted = (c.n != b.getD 7 0 || c.scale != b.getD 9 0 || c.manualLag != b.getD 11 0
    || (be16 b 15).extractLsb' 0 15 == 0)

theorem decodeConfig_eq_some_iff {b : List Byte} {c : PortConfig} {adj : Bool} :
    decodeConfig b = some (c, adj) ↔ c.DecodedFrom b adj := by
  constructor
  · intro h
    unfold decodeConfig at h
    split at h
    · rename_i enable role pacing mirror lagMode henable hrole hpacing hmirror hlagMode
      split_ifs at h with hk
      obtain ⟨rfl, rfl⟩ : _ = c ∧ _ = adj := by simpa only [Option.some.injEq, Prod.mk.injEq] using h
      exact ⟨henable, hrole, rfl, rfl, hpacing, Nat.le_of_not_lt hk, rfl, rfl, hmirror, rfl, hlagMode, rfl, rfl, rfl, rfl,
        rfl⟩
    · cases h
  · intro h
    have hsmall : ¬ 7 < (b.getD 6 0).toNat := Nat.not_lt.mpr h.small
    simp only [decodeConfig, h.enable, h.role, h.pacing, h.mirror, h.lagMode, if_neg hsmall, ← h.k, ← h.n, ← h.scale,
      ← h.manualLag, ← h.fadeStep, ← h.first, ← h.count, ← h.trim, ← h.holdTime, ← h.adjusted]

theorem leastN_toNat (k : BitVec 3) : (leastN k).toNat = 16 / 2 ^ k.toNat - 1 := by
  revert k
  decide

theorem adjustN_toNat (k : BitVec 3) (n : BitVec 8) : (adjustN k n).toNat = max n.toNat (16 / 2 ^ k.toNat - 1) := by
  rw [adjustN, ← leastN_toNat]
  split_ifs <;> omega

theorem adjustScale_toNat (x : BitVec 8) : ((adjustScale x).toNat : Int) = clampInt 1 16 x.toNat := by
  have hzero : x = 0 ↔ x.toNat = 0 := BitVec.toNat_eq
  have hone : (1 : BitVec 8).toNat = 1 := rfl
  have hmax : (16 : BitVec 8).toNat = 16 := rfl
  unfold adjustScale clampInt
  simp only [hzero]
  split_ifs <;> omega

theorem adjustLag_toNat (x : BitVec 8) : (adjustLag x).toNat = min 48 x.toNat := by
  unfold adjustLag Config.maxLag
  split_ifs
  · simp only [BitVec.ofNat_eq_ofNat, BitVec.toNat_ofNat]
    omega
  · omega

theorem toNat_extractLsb'_15 (x : Half) : (x.extractLsb' 0 15).toNat = x.toNat % 32768 := by
  rw [BitVec.extractLsb'_toNat, Nat.shiftRight_zero]

theorem adjustFade_toNat (x : Half) : (adjustFade x).toNat = max 1 (x.toNat % 32768) := by
  have hzero : x.extractLsb' 0 15 = 0 ↔ x.toNat % 32768 = 0 := by
    rw [← toNat_extractLsb'_15]
    exact BitVec.toNat_eq
  unfold adjustFade
  simp only [hzero]
  split_ifs with h
  · rw [h]
    rfl
  · rw [toNat_extractLsb'_15]
    omega

/-- The interval that a least N gives is at least 16 µs, and the greatest N and k give 32768 (R91). -/
theorem interval_range {c : PortConfig} (hn : 16 / 2 ^ c.k.toNat - 1 ≤ c.n.toNat) :
    16 ≤ c.interval ∧ c.interval ≤ 32768 := by
  have hk : c.k.toNat < 8 := c.k.isLt
  have hmax : c.n.toNat < 256 := c.n.isLt
  unfold PortConfig.interval
  generalize c.k.toNat = k at *
  interval_cases k <;> omega

/-- A configuration that Configure Port takes is valid (R34, R91, R153). -/
theorem PortConfig.valid_of_checkPort {s : State} {b : List Byte} {p : PortId} {c : PortConfig} {adj : Bool}
    (h : s.checkPort b = .ok (p, c, adj)) : c.Valid := by
  obtain ⟨hdecode, hcount, hfirst, hend, -⟩ := State.checkPort_ok h
  have hd := decodeConfig_eq_some_iff.mp hdecode
  have hscale := adjustScale_toNat (b.getD 9 0)
  have hclamp := clampInt_bounds 1 16 (b.getD 9 0).toNat (by decide)
  have hlag := adjustLag_toNat (b.getD 11 0)
  have hfade := adjustFade_toNat (be16 b 15)
  have hn := adjustN_toNat c.k (b.getD 7 0)
  rw [← hd.scale] at hscale
  rw [← hd.manualLag] at hlag
  rw [← hd.fadeStep] at hfade
  rw [← hd.n] at hn
  refine ⟨by omega, by omega, by omega, fun hzero => ?_, hcount, hfirst, hend, interval_range (by omega)⟩
  rw [hzero] at hfade
  have : (0 : BitVec 15).toNat = 0 := rfl
  omega

theorem PortConfig.valid_powerOn : PortConfig.powerOn.Valid := by decide

/-! ## A port takes a configuration (R85, R86, R92, R103) -/

section Configure

variable {now : Time} {c : PortConfig} {p : Port}

/-- OFF to ON (R85). -/
theorem Port.configure_of_turned_on (hold : p.cfg.enable = false) (hnew : c.enable = true) :
    p.configure now c =
      { p with cfg := c, state := .wait, lag := 0, consumed := none, seq := 0, lastFrame := none, mark := none,
               tx := { p.tx with sending := none },
               timer := if c.pacing = .peer then none else some (now + BitVec.ofNat 32 c.interval) } := by
  simp only [Port.configure, hold, hnew, Port.turnOn]
  cases hpacing : c.pacing <;> rfl

/-- ON to OFF (R86). -/
theorem Port.configure_of_turned_off (hold : p.cfg.enable = true) (hnew : c.enable = false) :
    p.configure now c = { p with cfg := c, state := .off, tx := p.tx.cut, mark := none, timer := none } := by
  simp only [Port.configure, hold, hnew]
  rfl

theorem Port.configure_of_staying_off (hold : p.cfg.enable = false) (hnew : c.enable = false) :
    p.configure now c = { p with cfg := c } := by
  simp only [Port.configure, hold, hnew]

/-- ON to ON: the mark and the timer follow a change between PEER and the timed modes (R92, R103). -/
theorem Port.configure_of_staying_on (hold : p.cfg.enable = true) (hnew : c.enable = true) :
    p.configure now c =
      { p with
        cfg := c
        mark := if p.cfg.pacing = .peer ∧ c.pacing ≠ .peer then none else p.mark
        timer := if c.pacing = .peer then (if p.cfg.pacing = .peer then p.timer else none)
                 else if p.cfg.pacing = .peer then some (now + BitVec.ofNat 32 c.interval) else p.timer } := by
  simp only [Port.configure, hold, hnew, Port.repace]
  cases hpacing : p.cfg.pacing <;> cases hpacing' : c.pacing <;> simp [Port.startTimer]

end Configure

/-! ## The invariant of one port -/

theorem PortState.chosen_ne (mode : Mode) (allNeutral : Bool) :
    chosenState mode allNeutral ≠ .off ∧ chosenState mode allNeutral ≠ .wait := by
  cases mode <;> cases allNeutral <;> decide

section Port

variable {port port' : Port} {ringEmpty laneAlive : Bool}

/-- The ring may fill and the lane come ALIVE without a change of the port. -/
theorem Port.Valid.mono {ringEmpty' laneAlive' : Bool} (h : port.Valid ringEmpty laneAlive)
    (hring : ringEmpty' = true → ringEmpty = true) (hlane : laneAlive = true → laneAlive' = true) :
    port.Valid ringEmpty' laneAlive' := by
  obtain ⟨hcfg, hlag, hlatency, hoff, htimer, hmark, hbusy, hwait, hempty⟩ := h
  exact ⟨hcfg, hlag, hlatency, hoff, htimer, hmark, fun hb => (hbusy hb).imp_right hlane, hwait,
    fun he => hempty (hring he)⟩

/-- A port in OFF with a valid configuration and nothing pending is valid beside any ring and lane. -/
theorem Port.valid_of_off (hcfg : port.cfg.Valid) (hlag : port.lag ≤ 48) (hlatency : port.latency ≠ some 0xFFFF)
    (henable : port.cfg.enable = false) (hstate : port.state = .off) (htimer : port.timer = none)
    (hmark : port.mark = none) (hbusy : port.tx.busy = false) : port.Valid ringEmpty laneAlive := by
  refine ⟨hcfg, hlag, hlatency, iff_of_true henable hstate, ?_, ?_, ?_, ?_, ?_⟩
  · rw [htimer, henable]
    exact iff_of_false (by decide) fun h => by cases h.1
  · rw [hmark]
    exact fun h => by cases h
  · rw [hbusy]
    exact fun h => by cases h
  · rw [hstate]
    exact fun h => by cases h
  · rw [henable]
    exact fun _ h => by cases h

/-- An enabled port, idle in WAIT with nothing pending, is valid beside any ring and lane. -/
theorem Port.valid_of_wait (hcfg : port.cfg.Valid) (hlag : port.lag = 0) (hlatency : port.latency ≠ some 0xFFFF)
    (henable : port.cfg.enable = true) (hstate : port.state = .wait) (hconsumed : port.consumed = none)
    (htimer : port.timer.isSome = true ↔ port.cfg.pacing ≠ .peer)
    (hmark : port.mark = none) (hbusy : port.tx.busy = false) : port.Valid ringEmpty laneAlive := by
  refine ⟨hcfg, by omega, hlatency, ?_, ?_, ?_, ?_, fun _ => ⟨hlag, hconsumed⟩, fun _ _ => hstate⟩
  · rw [henable, hstate]
    exact iff_of_false (by decide) (by decide)
  · rw [htimer, henable]
    exact (and_iff_right rfl).symm
  · rw [hmark]
    exact fun h => by cases h
  · rw [hbusy]
    exact fun h => by cases h

/-- What a composition may change of an enabled port on an ALIVE lane. -/
theorem Port.Valid.composed (h : port.Valid ringEmpty true) (henable : port.cfg.enable = true)
    (hcfg' : port'.cfg = port.cfg) (hlag' : port'.lag ≤ 48) (hlatency' : port'.latency = port.latency)
    (htimer' : port'.timer = port.timer) (hmark' : port'.mark = port.mark)
    (hbusy' : port.tx.busy = true → port'.tx.busy = true) (hstate' : port'.state ≠ .off)
    (hwait' : port'.state = .wait → port'.lag = 0 ∧ port'.consumed = none)
    (hempty' : ringEmpty = true → port'.state = .wait) : port'.Valid ringEmpty true := by
  obtain ⟨hcfg, -, hlatency, -, htimer, hmark, -, -, -⟩ := h
  unfold Port.Valid
  rw [hcfg', hlatency', htimer', hmark']
  refine ⟨hcfg, hlag', hlatency, iff_of_false (by rw [henable]; decide) hstate', htimer, fun hm => ?_,
    fun _ => ⟨henable, rfl⟩, hwait', fun he _ => hempty' he⟩
  obtain ⟨hon, hpeer, hsending⟩ := hmark hm
  exact ⟨hon, hpeer, hbusy' hsending⟩

theorem Port.Valid.latency (h : port.Valid ringEmpty laneAlive) {x : Option Half} (hx : x ≠ some 0xFFFF) :
    ({ port with latency := x } : Port).Valid ringEmpty laneAlive := by
  obtain ⟨hcfg, hlag, -, hrest⟩ := h
  exact ⟨hcfg, hlag, hx, hrest⟩

theorem Port.Valid.startTimer (h : port.Valid ringEmpty laneAlive) (henable : port.cfg.enable = true)
    (hpacing : port.cfg.pacing ≠ .peer) (t : Time) : (port.startTimer t).Valid ringEmpty laneAlive := by
  obtain ⟨hcfg, hlag, hlatency, hoff, -, hrest⟩ := h
  exact ⟨hcfg, hlag, hlatency, hoff, iff_of_true rfl ⟨henable, hpacing⟩, hrest⟩

theorem Port.Valid.pendMark (h : port.Valid ringEmpty laneAlive) (henable : port.cfg.enable = true)
    (hpacing : port.cfg.pacing = .peer) (hbusy : port.tx.busy = true) (m : PaceMark) :
    (port.pendMark m).Valid ringEmpty laneAlive := by
  obtain ⟨hcfg, hlag, hlatency, hoff, htimer, -, hrest⟩ := h
  rw [Port.pendMark_eq]
  exact ⟨hcfg, hlag, hlatency, hoff, htimer, fun _ => ⟨henable, hpacing, hbusy⟩, hrest⟩

/-- An idle transmitter and no pending mark fit a port on any lane. -/
theorem Port.Valid.idle (h : port.Valid ringEmpty laneAlive) {tx : Transmitter} (hbusy : tx.busy = false)
    (laneAlive' : Bool) : ({ port with mark := none, tx := tx } : Port).Valid ringEmpty laneAlive' := by
  obtain ⟨hcfg, hlag, hlatency, hoff, htimer, -, -, hwait, hempty⟩ := h
  refine ⟨hcfg, hlag, hlatency, hoff, htimer, fun hm => ?_, fun hb => ?_, hwait, hempty⟩
  · cases hm
  have hsending : tx.busy = true := hb
  rw [hbusy] at hsending
  cases hsending

theorem Port.Valid.report (h : port.Valid ringEmpty laneAlive) (counters : PortCounters) (conditions : PortConditions) :
    ({ port with counters := counters, conditions := conditions } : Port).Valid ringEmpty laneAlive := h

/-- A port takes a valid configuration, by the change of its enable (R85, R86, R92, R103). -/
theorem Port.Valid.configure (h : port.Valid ringEmpty laneAlive) {c : PortConfig} (hc : c.Valid) (now : Time) :
    (port.configure now c).Valid ringEmpty laneAlive := by
  obtain ⟨-, hlag, hlatency, hoff, htimer, hmark, hbusy, hwait, hempty⟩ := h
  cases henable : port.cfg.enable with
  | false =>
    rw [henable] at htimer hmark hbusy
    cases henable' : c.enable with
    | false =>
      rw [Port.configure_of_staying_off henable henable']
      exact Port.valid_of_off hc hlag hlatency henable' (hoff.mp henable) (by simpa using htimer) (by simpa using hmark)
        (by simpa using hbusy)
    | true =>
      rw [Port.configure_of_turned_on henable henable']
      refine Port.valid_of_wait hc rfl hlatency henable' rfl rfl ?_ rfl rfl
      dsimp only
      split_ifs with hpeer <;> simp [hpeer]
  | true =>
    rw [henable, and_iff_right rfl] at htimer
    cases henable' : c.enable with
    | false =>
      rw [Port.configure_of_turned_off henable henable']
      exact Port.valid_of_off hc hlag hlatency henable' rfl rfl rfl (Transmitter.busy_cut _)
    | true =>
      rw [Port.configure_of_staying_on henable henable']
      have hstate : port.state ≠ .off := fun hs => by
        rw [hoff.mpr hs] at henable
        cases henable
      refine ⟨hc, hlag, hlatency, iff_of_false (by rw [henable']; decide) hstate, ?_, ?_,
        fun hb => ⟨henable', (hbusy hb).2⟩, hwait, fun he _ => hempty he henable⟩
      · rw [henable', and_iff_right rfl]
        dsimp only
        split_ifs with hnew hold hold
        · exact htimer.trans (by rw [hold, hnew])
        · exact iff_of_false (by decide) (not_not_intro hnew)
        · exact iff_of_true rfl hnew
        · exact htimer.trans (iff_of_true hold hnew)
      · dsimp only
        split_ifs with hchange
        · exact fun hm => by cases hm
        · intro hm
          obtain ⟨-, hpeer, hsending⟩ := hmark hm
          exact ⟨henable', not_not.mp fun hnew => hchange ⟨hpeer, hnew⟩, hsending⟩

theorem Port.Valid.resetRuntime (h : port.Valid ringEmpty laneAlive) (ringEmpty' laneAlive' : Bool) :
    port.resetRuntime.Valid ringEmpty' laneAlive' := by
  obtain ⟨hcfg, hlag, hlatency, hoff, htimer, hmark, hbusy, -, -⟩ := h
  unfold Port.resetRuntime Port.enabled
  cases henable : port.cfg.enable with
  | true =>
    exact Port.valid_of_wait hcfg rfl hlatency henable rfl rfl (htimer.trans (and_iff_right henable)) rfl
      (Transmitter.busy_cut _)
  | false =>
    rw [henable] at htimer hmark hbusy
    refine Port.valid_of_off hcfg hlag hlatency henable (hoff.mp henable) ?_ ?_ ?_
    · simpa using htimer
    · simpa using hmark
    · simpa using hbusy

theorem Port.valid_resetFull (port : Port) (ringEmpty laneAlive : Bool) : port.resetFull.Valid ringEmpty laneAlive :=
  Port.valid_of_off PortConfig.valid_powerOn (Nat.zero_le _) (fun h => by cases h) rfl rfl rfl rfl (Transmitter.busy_cut _)

theorem Port.valid_powerOn (ringEmpty laneAlive : Bool) : Port.powerOn.Valid ringEmpty laneAlive :=
  Port.valid_of_off PortConfig.valid_powerOn (Nat.zero_le _) (fun h => by cases h) rfl rfl rfl rfl rfl

end Port

/-! ## The invariant of the ports -/

theorem State.portsGood_of_ports {s t : State} (h : s.PortsGood)
    (hports : ∀ p : PortId, s.ports[p].Valid s.intake.ring.isEmpty (s.lane (.output p)).alive →
      t.ports[p].Valid t.intake.ring.isEmpty (t.lane (.output p)).alive) : t.PortsGood := fun p => hports p (h p)

theorem State.portsGood_of_eq {s t : State} (hports : t.ports = s.ports) (hring : t.intake.ring = s.intake.ring)
    (hlanes : ∀ p, (t.lane (.output p)).alive = (s.lane (.output p)).alive) (h : s.PortsGood) : t.PortsGood :=
  State.portsGood_of_ports h fun p hp => by rwa [hports, hring, hlanes]

theorem State.Quiet.portsGood {s t : State} (hq : State.Quiet s t) (h : s.PortsGood) : t.PortsGood := by
  have hports : t.ports = s.ports := by rw [hq.frame]
  have hintake : t.intake = s.intake := by rw [hq.frame]
  refine State.portsGood_of_ports h fun p hp => ?_
  rw [hports, hintake]
  exact hp.mono id (hq.alive p)

theorem State.portsGood_updPort {s : State} {p : PortId} {f : Port → Port} (h : s.PortsGood)
    (hf : s.ports[p].Valid s.intake.ring.isEmpty (s.lane (.output p)).alive →
      (f s.ports[p]).Valid s.intake.ring.isEmpty (s.lane (.output p)).alive) : (s.updPort p f).PortsGood := by
  refine State.portsGood_of_ports h fun q hq => ?_
  by_cases hqp : q = p
  · subst hqp
    rw [State.ports_updPort_same]
    exact hf hq
  · rwa [State.ports_updPort_other s f hqp]

theorem State.portsGood_dropLane {s : State} {p : PortId} (h : s.PortsGood) : (s.dropLane (.output p)).PortsGood := by
  refine State.portsGood_of_ports h fun q hq => ?_
  by_cases hqp : q = p
  · subst hqp
    have hport : (s.dropLane (.output q)).ports[q] = s.ports[q].loseLane := State.ports_updPort_same _ q _
    rw [hport]
    exact (hq.report _ _).idle (Transmitter.busy_cut _) _
  · have hlane : (s.dropLane (.output p)).lane (.output q) = s.lane (.output q) :=
      State.lane_dropLane_other s fun he => hqp (Lane.output.inj he)
    have hport : (s.dropLane (.output p)).ports[q] = s.ports[q] := State.ports_updPort_other _ _ hqp
    rw [hlane, hport]
    exact hq

theorem State.plan_lag_le {s : State} {p : PortId} (hmanual : s.ports[p].cfg.manualLag.toNat ≤ 48)
    (hlag : s.ports[p].lag ≤ 48) : (s.plan p).lag ≤ 48 := by
  by_cases hwait : s.ports[p].state = .wait
  · rw [State.plan_lag_of_wait hwait]
    exact State.targetLag_le hmanual
  · rw [State.plan_lag_of_ne_wait hwait]
    exact walk_le hlag (State.targetLag_le hmanual)

theorem Transmitter.busy_of_emit {tx : Transmitter} {tr : Bool} (now : Time) (bytes : Frame) (h : tx.busy = true) :
    (if tr then tx.begin now bytes else tx).busy = true := by
  cases tr
  · exact h
  · rfl

/-- A composition keeps its port valid: in WAIT with the ring empty, and out of it otherwise (R43, R83). -/
theorem State.portsGood_compose {s : State} {p : PortId} {tr : Bool} (h : s.PortsGood) : (s.compose p tr).PortsGood := by
  by_cases hmay : s.mayCompose p = true
  · obtain ⟨henable, halive⟩ := State.mayCompose_iff.mp hmay
    have hintake : (s.compose p tr).intake = s.intake := by rw [State.compose_frame]
    have hlanes : (s.compose p tr).link.lanes = s.link.lanes := by rw [State.compose_frame]
    refine State.portsGood_of_ports h fun q hq => ?_
    rw [hintake, State.lane_congr hlanes]
    by_cases hqp : q = p
    · subst hqp
      rw [halive] at hq ⊢
      have ⟨⟨_, _, hmanual, _⟩, hlag, _, _, _, _, _, hwait, hempty⟩ := hq
      by_cases hring : s.intake.ring = []
      · rw [(State.compose_of_empty hmay hring).1, State.composeWait_port]
        have hstate : s.ports[q].state = .wait := hempty (List.isEmpty_iff.mpr hring) henable
        exact hq.composed henable rfl hlag rfl rfl rfl (Transmitter.busy_of_emit _ _) (fun he => by cases he)
          (fun _ => hwait hstate) fun _ => rfl
      · rw [(State.compose_of_ring hmay hring).1, State.composeRing_port]
        obtain ⟨hoff, hnotWait⟩ := PortState.chosen_ne (s.scene q tr).mode (s.routes.allNeutral (s.outs q tr))
        exact hq.composed henable rfl (State.plan_lag_le hmanual hlag) rfl rfl rfl (Transmitter.busy_of_emit _ _) hoff
          (fun hw => absurd hw hnotWait) fun he => absurd (List.isEmpty_iff.mp he) hring
    · rwa [State.compose_port_ne p q tr s hqp]
  · rwa [State.compose_of_not_may hmay]

theorem State.portsGood_composeRepeat {s : State} {p : PortId} (h : s.PortsGood) : (s.composeRepeat p).PortsGood := by
  by_cases hmay : s.mayCompose p = true
  · cases hrecord : s.ports[p].lastFrame with
    | none =>
      rw [State.composeRepeat_of_no_record hrecord]
      exact State.portsGood_compose h
    | some d =>
      obtain ⟨henable, halive⟩ := State.mayCompose_iff.mp hmay
      rw [State.composeRepeat_of_record hmay hrecord]
      refine State.portsGood_updPort h fun hp => ?_
      rw [halive] at hp ⊢
      have ⟨⟨_, _, hmanual, _⟩, hlag, _, hoff, _, _, _, hwait, hempty⟩ := hp
      have hlag' : (s.repeatPort p d s.ports[p]).lag ≤ 48 := by
        unfold State.repeatPort
        dsimp only
        split_ifs
        · exact hlag
        · exact walk_le hlag (State.targetLag_le hmanual)
      refine hp.composed henable rfl hlag' rfl rfl rfl (fun _ => rfl) (fun hs => ?_) (fun hs => ?_)
        fun he => hempty he henable
      · rw [hoff.mpr hs] at henable
        cases henable
      · obtain ⟨hzero, hconsumed⟩ := hwait hs
        exact ⟨(if_pos hs).trans hzero, hconsumed⟩
  · have hidle : s.composeRepeat p = s := if_neg hmay
    rwa [hidle]

theorem State.portsGood_takeMark {s : State} {p : PortId} (m : PaceMark) (h : s.PortsGood) : (s.takeMark p m).PortsGood := by
  cases m with
  | wantAdvance => exact State.portsGood_compose h
  | want => exact State.portsGood_composeRepeat h

theorem paceLatency_ne (f : Frame) : paceLatency f ≠ some 0xFFFF := by
  unfold paceLatency
  dsimp only
  split_ifs with h
  · exact fun he => by cases he
  · exact fun he => h (Option.some.inj he)

theorem State.portsGood_wantFrame {s : State} {p : PortId} (m : PaceMark) (h : s.PortsGood)
    (henable : s.ports[p].cfg.enable = true) (hpeer : s.ports[p].cfg.pacing = .peer) : (s.wantFrame p m).PortsGood := by
  unfold State.wantFrame
  split_ifs with hbusy
  · exact State.portsGood_updPort h fun hp => hp.pendMark henable hpeer hbusy m
  · exact State.portsGood_takeMark m h

theorem State.portsGood_port : State.KeptByPort State.PortsGood where
  takePace := fun {s p f} h => by
    have hrecorded : (s.paceRecorded p f).PortsGood :=
      State.portsGood_updPort h fun hp => hp.latency (paceLatency_ne f)
    have hport := State.ports_paceRecorded_same p f s
    by_cases henable : s.ports[p].cfg.enable = true
    · have henable' : (s.paceRecorded p f).ports[p].cfg.enable = true := by rwa [hport]
      rw [State.takePace_of_enabled henable]
      cases hpacing : s.ports[p].cfg.pacing with
      | timer => exact hrecorded
      | locked =>
        exact State.portsGood_updPort hrecorded fun hp => hp.startTimer henable' (by rw [hport, hpacing]; decide) _
      | peer =>
        have hpeer : (s.paceRecorded p f).ports[p].cfg.pacing = .peer := by rwa [hport]
        dsimp only
        split
        · exact hrecorded
        · exact State.portsGood_compose hrecorded
        · exact State.portsGood_wantFrame _ hrecorded henable' hpeer
        · exact State.portsGood_wantFrame _ hrecorded henable' hpeer
    · rw [State.takePace_of_disabled (Bool.not_eq_true _ ▸ henable)]
      exact hrecorded
  endDest := fun {s p} h => by
    have hidle : (s.updPort p fun port => { port with mark := none, tx := { port.tx with sending := none } }).PortsGood :=
      State.portsGood_updPort h fun hp => hp.idle rfl _
    cases hmark : s.ports[p].mark with
    | none => rwa [State.endDest_of_no_mark hmark]
    | some m =>
      rw [State.endDest_of_mark hmark]
      exact State.portsGood_takeMark m hidle
  expireTimer := fun {s p} h => by
    cases htimer : s.ports[p].timer with
    | none =>
      have hidle : s.expireTimer p = s := by simp only [State.expireTimer, htimer]
      rwa [hidle]
    | some t =>
      have hstarted : (s.updPort p (Port.startTimer t)).PortsGood := State.portsGood_updPort h fun hp => by
        have ⟨_, _, _, _, htimed, _⟩ := hp
        obtain ⟨henable, hpacing⟩ := htimed.mp (by rw [htimer]; rfl)
        exact hp.startTimer henable hpacing t
      rw [State.expireTimer_of_timer htimer]
      split_ifs
      · exact hstarted
      · exact State.portsGood_updPort hstarted fun hp => hp.report _ _
      · exact State.portsGood_compose hstarted

theorem State.portsGood_configureSource {s : State} (n : Half) (x : BitVec 8) (h : s.PortsGood) :
    (s.configureSource n x).PortsGood := by
  obtain he | ⟨_, -, he⟩ := State.configureSource_cases n x s <;> rw [he]
  · exact State.portsGood_of_eq rfl rfl (fun _ => rfl) h
  · exact State.portsGood_of_eq rfl rfl (fun _ => rfl) h

/-- The counters of the lanes are no part of their link states. -/
theorem State.alive_clearLaneCounters {s t : State} (h : t.link.lanes = s.link.clearLaneCounters.lanes) (l : Lane) :
    (t.lane l).alive = (s.lane l).alive := by
  have hlane : t.lane l = { s.lane l with counters := {} } := by
    simp [State.lane, h, Link.clearLaneCounters]
  rw [hlane]
  rfl

theorem State.portsGood_workKept : Work.Kept fun w => w.state.PortsGood where
  loadEntry h _ := State.portsGood_of_eq rfl rfl (fun _ => rfl) h
  curves := State.portsGood_of_eq rfl rfl fun _ => rfl
  configurePort h hcheck := State.portsGood_updPort h fun hp => hp.configure (PortConfig.valid_of_checkPort hcheck) _
  configureSource := State.portsGood_configureSource _ _
  clearConditions h := State.portsGood_of_ports h fun p hp => by
    rw [State.ports_clearConditions]
    exact hp.report _ _
  resetFull h := State.portsGood_of_ports h fun p _ => by
    have hport : ∀ s : State, s.resetFull.ports[p] = s.ports[p].resetFull := fun s => by simp [State.resetFull]
    rw [hport]
    exact Port.valid_resetFull _ _ _
  resetRuntime h := State.portsGood_of_ports h fun p hp => by
    have hport : ∀ s : State, s.resetRuntime.ports[p] = s.ports[p].resetRuntime := fun s => by simp [State.resetRuntime]
    rw [hport]
    exact hp.resetRuntime _ _
  resetCounters := fun {w} h => State.portsGood_of_ports h fun p hp => by
    have hport : ∀ s : State, s.resetCounters.ports[p] = s.ports[p].resetCounters := fun s => by
      simp [State.resetCounters]
    rw [hport, State.alive_clearLaneCounters (s := w.state) rfl]
    exact hp.report _ _

theorem State.portsGood_clearGroup {s : State} {g : Group} (h : s.PortsGood) : (s.clearGroup g).PortsGood := by
  cases g with
  | link => exact State.portsGood_of_eq (s := s) rfl rfl (fun _ => State.alive_clearLaneCounters (s := s) rfl _) h
  | part => exact State.portsGood_of_eq rfl rfl (fun _ => rfl) h
  | port p => exact State.portsGood_updPort h fun hp => hp.report _ _

theorem State.portsGood_takeCueIntake {s : State} {f : Frame} (h : s.PortsGood) : (s.takeCueIntake f).PortsGood := by
  refine State.portsGood_of_ports h fun p hp => ?_
  have hports : (s.takeCueIntake f).ports = s.ports := by rw [State.takeCueIntake_frame]
  rw [hports, State.lane_congr (congrArg Link.lanes (State.takeCueIntake_link f s))]
  refine hp.mono (fun hempty => ?_) id
  -- A ring that a frame has entered is not empty; a refused frame leaves the ring.
  have haccept : ∀ sample, ((s.intake.accept s.now f sample).ring).isEmpty = true → s.intake.ring.isEmpty = true := by
    intro sample he
    change ((s.intake.record s.now f :: s.intake.ring).take 64).isEmpty = true at he
    rw [List.take_succ_cons] at he
    cases he
  cases hlast : s.intake.last with
  | none =>
    rw [State.takeCueIntake_of_absent hlast] at hempty
    exact haccept _ hempty
  | some last =>
    cases hstep : stepAccepted (s.intake.distance f) with
    | false => rwa [State.takeCueIntake_of_refused hlast hstep] at hempty
    | true =>
      rw [State.takeCueIntake_of_accepted hlast hstep] at hempty
      split_ifs at hempty
      · exact haccept _ hempty
      · exact haccept _ hempty

theorem State.portsGood_kept : State.Kept State.PortsGood where
  toKeptByLink := .of_quiet State.Quiet.portsGood State.portsGood_dropLane
  takeCueIntake h _ _ := State.portsGood_takeCueIntake h
  takePace := State.portsGood_port.takePace
  endDest := State.portsGood_port.endDest
  expireTimer := State.portsGood_port.expireTimer
  expireAtInstant := fun {s} h => by
    obtain he | ⟨_, _, -, he⟩ := State.expireAtInstant_cases s <;> rw [he]
    · exact h
    · exact State.portsGood_of_eq rfl rfl (fun _ => rfl) h
  runBatch h hrun _ := State.runBatch_keeps State.portsGood_workKept (State.portsGood_of_eq rfl rfl fun _ => rfl)
    State.portsGood_clearGroup h hrun

/-- Settles O57. -/
theorem stepKeepsPortsGood : Obligations.StepKeepsPortsGood := fun _ _ =>
  State.portsGood_kept.step
    (fun u s _ p => by
      have hport : (s.pinReset u).ports[p] = Port.powerOn := by simp [State.pinReset, State.powerOn]
      rw [hport]
      exact Port.valid_powerOn _ _)
    (fun _ _ _ => State.portsGood_of_eq rfl rfl fun _ => rfl)
    fun s h => State.portsGood_of_ports h fun p hp => by
      have hport : s.tick.ports[p] = { s.ports[p] with tx := s.ports[p].tx.settle } := by simp [State.tick]
      rw [hport]
      exact hp

end Sys2Proof.Machine

/-! # What every step keeps of the cue link (chapter 07) -/

namespace Sys2Proof.Machine

/-! ## The invariant of the link interface, in two parts -/

/-- The queue that the arbiter's mark names (R137). -/
def Link.served (k : Link) : List Frame :=
  match k.lastServed with
  | .own => k.own
  | .ret => k.returns

/-- The invariant but for the arbiter being at work: what has to hold before the arbiter chooses. -/
structure State.LinkReady (s : State) : Prop where
  lanes : ∀ k : Fin 8, s.link.lanes[k].Valid
  own : s.link.own.length ≤ 4
  returns : s.link.returns.length ≤ 4
  thru : s.link.thruTx.busy = true ↔ s.link.forwarding ≠ []
  thruDown : (s.lane .thru).alive = false → s.link.forwarding = []
  upDown : (s.lane .upstream).alive = false → s.link.upTx.busy = false
  served : s.link.upTx.busy = true → s.link.served ≠ []

/-- No frame waits beside an idle transmitter of an ALIVE upstream lane (R137, R139). -/
def State.ArbiterServes (s : State) : Prop :=
  (s.lane .upstream).alive = true → s.link.upTx.busy = false → s.link.own = [] ∧ s.link.returns = []

theorem State.linkGood_iff (s : State) : s.LinkGood ↔ s.LinkReady ∧ s.ArbiterServes := by
  constructor
  · rintro ⟨hlanes, hown, hreturns, hthru, hthruDown, hupDown, hserved, harbiter⟩
    exact ⟨⟨hlanes, hown, hreturns, hthru, hthruDown, hupDown, hserved⟩, harbiter⟩
  · rintro ⟨⟨hlanes, hown, hreturns, hthru, hthruDown, hupDown, hserved⟩, harbiter⟩
    exact ⟨hlanes, hown, hreturns, hthru, hthruDown, hupDown, hserved, harbiter⟩

theorem State.linkGood_of_eq {s t : State} (h : t.link = s.link) (hs : s.LinkGood) : t.LinkGood := by
  have hlane : ∀ l, t.lane l = s.lane l := State.lane_congr (congrArg Link.lanes h)
  unfold State.LinkGood at *
  rwa [h, hlane, hlane]

/-- A change of the receive lanes that leaves which of them are ALIVE. -/
theorem State.linkGood_of_lanes {s t : State} (hlink : t.link = { s.link with lanes := t.link.lanes })
    (hlanes : ∀ k : Fin 8, t.link.lanes[k].Valid) (halive : ∀ l, (t.lane l).alive = (s.lane l).alive) (hs : s.LinkGood) :
    t.LinkGood := by
  obtain ⟨-, hrest⟩ := hs
  refine ⟨hlanes, ?_⟩
  rw [halive, halive, hlink]
  exact hrest

theorem State.lanes_updLane (s : State) (l : Lane) (f : RxLane → RxLane) (k : Fin 8) :
    (s.updLane l f).link.lanes[k] = if k = laneIndex l then f (s.lane l) else s.link.lanes[k] := by
  split
  case isTrue h =>
    subst h
    exact State.lane_updLane_same s l f
  case isFalse h =>
    have hne : (laneIndex l).val ≠ k.val := fun he => h (Fin.ext he.symm)
    change (s.link.lanes.set (laneIndex l) (f (s.lane l)))[k] = _
    exact Vector.getElem_set_ne _ _ hne

theorem State.lanes_updLane_valid {s : State} {l : Lane} {f : RxLane → RxLane} (h : ∀ k : Fin 8, s.link.lanes[k].Valid)
    (hf : (f (s.lane l)).Valid) (k : Fin 8) : (s.updLane l f).link.lanes[k].Valid := by
  rw [State.lanes_updLane]
  split
  · exact hf
  · exact h k

/-! ## The arbiter (R137, R139) -/

theorem Link.choose_eq_none {k : Link} (h : k.choose = none) : k.own = [] ∧ k.returns = [] := by
  unfold Link.choose at h
  split at h
  case h_1 hown hreturns => exact ⟨hown, hreturns⟩
  case h_2 => cases h
  case h_3 => cases h
  case h_4 => split at h <;> cases h

/-- The queue that the arbiter takes a frame from holds one. -/
theorem Link.choose_eq_some {k : Link} {q : Served} {f : Frame} (h : k.choose = some (q, f)) (tx : Transmitter) :
    ({ k with upTx := tx, lastServed := q } : Link).served ≠ [] := by
  unfold Link.choose at h
  split at h
  case h_1 => cases h
  case h_2 hown hreturns =>
    cases h
    simp [Link.served, hown]
  case h_3 hown hreturns =>
    cases h
    simp [Link.served, hreturns]
  case h_4 hown hreturns =>
    split at h
    · cases h
      simp [Link.served, hreturns]
    · cases h
      simp [Link.served, hown]

/-- A ready link whose arbiter has chosen meets the whole invariant. -/
theorem State.LinkReady.arbitrate {s : State} (h : s.LinkReady) : s.arbitrate.LinkGood := by
  rw [State.linkGood_iff]
  unfold State.arbitrate
  split
  case isTrue hidle =>
    refine ⟨h, fun halive hbusy => ?_⟩
    rw [halive, hbusy] at hidle
    cases hidle
  case isFalse hwork =>
    have halive : (s.lane .upstream).alive = true := by
      simp only [Bool.or_eq_true, Bool.not_eq_true', not_or, Bool.not_eq_false] at hwork
      exact hwork.2
    split
    case h_1 hchoose => exact ⟨h, fun _ _ => Link.choose_eq_none hchoose⟩
    case h_2 q f hchoose =>
      refine ⟨⟨h.lanes, h.own, h.returns, h.thru, h.thruDown, fun hdown => ?_, fun _ => Link.choose_eq_some hchoose _⟩,
        fun _ hbusy => ?_⟩
      · have hlane : (s.lane .upstream).alive = false := hdown
        rw [halive] at hlane
        cases hlane
      · cases hbusy

theorem State.LinkReady.joinOwn {s : State} (h : s.LinkReady) (hplace : s.link.own.length < 4) (f : Frame) :
    (s.joinOwn f).LinkGood := by
  refine State.LinkReady.arbitrate ⟨h.lanes, ?_, h.returns, h.thru, h.thruDown, h.upDown, fun hbusy => ?_⟩
  · rw [List.length_append]
    exact hplace
  · have hserved := h.served hbusy
    unfold Link.served at hserved ⊢
    dsimp only
    split
    · simp
    · simp_all

theorem State.LinkReady.joinReturn {s : State} (h : s.LinkReady) (hplace : s.link.returns.length < 4) (f : Frame) :
    (s.joinReturn f).LinkGood := by
  rw [State.joinReturn_eq_arbitrate hplace]
  refine State.LinkReady.arbitrate ⟨h.lanes, h.own, ?_, h.thru, h.thruDown, h.upDown, fun hbusy => ?_⟩
  · rw [List.length_append]
    exact hplace
  · have hserved := h.served hbusy
    unfold Link.served at hserved ⊢
    dsimp only
    split
    · simp_all
    · simp

/-- The frame sent leaves its queue, and the arbiter chooses anew (R137). -/
theorem State.LinkReady.endUpstream {s : State} (h : s.LinkReady) : s.endUpstream.LinkGood := by
  have hleave : s.link.leave.lanes = s.link.lanes ∧ s.link.leave.thruTx = s.link.thruTx
      ∧ s.link.leave.forwarding = s.link.forwarding
      ∧ s.link.leave.own.length ≤ s.link.own.length ∧ s.link.leave.returns.length ≤ s.link.returns.length := by
    unfold Link.leave
    split <;> simp
  obtain ⟨hlanes, hthruTx, hforwarding, hown, hreturns⟩ := hleave
  refine State.LinkReady.arbitrate ⟨fun k => ?_, hown.trans h.own, hreturns.trans h.returns, ?_, fun hdown => ?_,
    fun _ => rfl, fun hbusy => by cases hbusy⟩
  · have hlane : s.link.leave.lanes[k] = s.link.lanes[k] := by rw [hlanes]
    exact hlane ▸ h.lanes k
  · dsimp only
    rw [hthruTx, hforwarding]
    exact h.thru
  · dsimp only
    rw [hforwarding]
    refine h.thruDown ?_
    rw [← hdown]
    exact congrArg RxLane.alive (State.lane_congr hlanes.symm .thru)

/-! ## Forwarding (R132, R133) -/

/-- A change of the thru pair alone, to a transmitter that sends exactly while its queue holds a frame. -/
theorem State.linkGood_of_thru {s t : State}
    (hlink : t.link = { s.link with thruTx := t.link.thruTx, forwarding := t.link.forwarding })
    (hthru : t.link.thruTx.busy = true ↔ t.link.forwarding ≠ [])
    (hdown : (s.lane .thru).alive = false → t.link.forwarding = []) (hs : s.LinkGood) : t.LinkGood := by
  have hlanes : t.link.lanes = s.link.lanes := by rw [hlink]
  have hlane : ∀ l, t.lane l = s.lane l := State.lane_congr hlanes
  rw [State.linkGood_iff] at hs ⊢
  obtain ⟨⟨hvalid, hown, hreturns, -, -, hupDown, hserved⟩, harbiter⟩ := hs
  have hqueues : t.link.own = s.link.own ∧ t.link.returns = s.link.returns ∧ t.link.upTx = s.link.upTx
      ∧ t.link.served = s.link.served := by
    rw [hlink]
    exact ⟨rfl, rfl, rfl, rfl⟩
  obtain ⟨hown', hreturns', hup, hserved'⟩ := hqueues
  refine ⟨⟨?_, ?_, ?_, hthru, ?_, ?_, ?_⟩, ?_⟩
  · rwa [hlanes]
  · rwa [hown']
  · rwa [hreturns']
  · rwa [hlane]
  · rwa [hlane, hup]
  · rwa [hup, hserved']
  · unfold State.ArbiterServes
    rwa [hlane, hup, hown', hreturns']

theorem State.linkGood_forward {s : State} {f : Frame} (h : s.LinkGood) : (s.forward f).LinkGood := by
  have hforwarded := State.forward_forwarded f s
  have hframe := congrArg State.link (State.forward_frame f s)
  obtain ⟨⟨-, -, -, hthru, hdown, -⟩, -⟩ := (State.linkGood_iff s).mp h
  unfold State.Forwarded at hforwarded
  split at hforwarded
  case isTrue halive =>
    obtain ⟨hqueue, htx⟩ := hforwarded
    refine State.linkGood_of_thru hframe ?_ (fun hoff => by rw [halive] at hoff; cases hoff) h
    rw [hqueue, htx]
    refine iff_of_true ?_ (by simp)
    split
    · assumption
    · rfl
  case isFalse =>
    obtain ⟨hqueue, htx⟩ := hforwarded
    refine State.linkGood_of_thru hframe ?_ ?_ h
    · rw [hqueue, htx]
      exact hthru
    · rw [hqueue]
      exact hdown

/-- The thru transmitter after the end of a transmission: the next frame of the queue is begun on an ALIVE lane. -/
theorem State.endForward_thruTx (s : State) :
    s.endForward.link.thruTx =
      match s.link.forwarding.tail with
      | [] => { s.link.thruTx with sending := none }
      | f :: _ =>
        if (s.lane .thru).alive then ({ s.link.thruTx with sending := none } : Transmitter).begin s.now f
        else { s.link.thruTx with sending := none } := by
  unfold State.endForward
  rw [State.beginForward_thruTx]
  dsimp only
  cases s.link.forwarding.tail with
  | nil => rfl
  | cons f rest =>
    rw [Transmitter.busy_finish, Bool.false_or]
    change (if (!(s.lane .thru).alive) = true then s.link.thruTx.finish else s.link.thruTx.finish.begin s.now f) = _
    cases (s.lane .thru).alive <;> rfl

theorem State.linkGood_endForward {s : State} (h : s.LinkGood) : s.endForward.LinkGood := by
  have hframe := congrArg State.link (State.endForward_frame s)
  have hqueue : s.endForward.link.forwarding = s.link.forwarding.tail := by rw [State.endForward_frame]
  obtain ⟨⟨-, -, -, -, hdown, -⟩, -⟩ := (State.linkGood_iff s).mp h
  refine State.linkGood_of_thru (by rw [hframe]) ?_ (fun hoff => by rw [hqueue, hdown hoff]; rfl) h
  rw [hqueue, State.endForward_thruTx]
  cases htail : s.link.forwarding.tail with
  | nil => exact iff_of_false (fun hbusy => by cases hbusy) (fun hne => hne rfl)
  | cons f rest =>
    have halive : (s.lane .thru).alive = true := by
      rw [← Bool.not_eq_false]
      intro hoff
      rw [hdown hoff] at htail
      cases htail
    dsimp only
    rw [if_pos halive]
    exact iff_of_true rfl (List.cons_ne_nil f rest)

/-! ## Gaining and losing lock (R124, R137) -/

theorem State.linkGood_becomeAlive {s : State} {l : Lane} (h : s.LinkGood) (hdown : (s.lane l).alive = false) :
    (s.becomeAlive l).LinkGood := by
  let u := s.updLane l fun r => { r with link := .alive 0, asm := none }
  obtain ⟨hready, harbiter⟩ := (State.linkGood_iff s).mp h
  have hlanes : ∀ k : Fin 8, u.link.lanes[k].Valid := State.lanes_updLane_valid hready.lanes ⟨by simp, by simp⟩
  have hother : ∀ m, m ≠ l → u.lane m = s.lane m := fun m hm => State.lane_updLane_other s _ hm
  cases l with
  | upstream =>
    have hidle : s.link.upTx.busy = false := hready.upDown hdown
    refine State.LinkReady.arbitrate (s := u) ⟨hlanes, hready.own, hready.returns, hready.thru, ?_, fun _ => hidle,
      hready.served⟩
    rw [hother .thru (by decide)]
    exact hready.thruDown
  | thru =>
    have hup := hother .upstream (by decide)
    refine (State.linkGood_iff u).mpr ⟨⟨hlanes, hready.own, hready.returns, hready.thru, fun _ => hready.thruDown hdown, ?_,
      hready.served⟩, ?_⟩
    · rw [hup]
      exact hready.upDown
    · unfold State.ArbiterServes
      rw [hup]
      exact harbiter
  | output p =>
    have hup := hother .upstream nofun
    have hthru := hother .thru nofun
    refine (State.linkGood_iff u).mpr ⟨⟨hlanes, hready.own, hready.returns, hready.thru, ?_, ?_, hready.served⟩, ?_⟩
    · rw [hthru]
      exact hready.thruDown
    · rw [hup]
      exact hready.upDown
    · unfold State.ArbiterServes
      rw [hup]
      exact harbiter

theorem State.linkGood_dropLane {s : State} {l : Lane} (h : s.LinkGood) : (s.dropLane l).LinkGood := by
  obtain ⟨hready, harbiter⟩ := (State.linkGood_iff s).mp h
  have hlanes : ∀ k : Fin 8, (s.dropLane l).link.lanes[k].Valid := by
    rw [State.lanes_dropLane]
    exact State.lanes_updLane_valid hready.lanes ⟨by simp, by simp⟩
  have hother : ∀ m, m ≠ l → (s.dropLane l).lane m = s.lane m := fun m hm => State.lane_dropLane_other s hm
  have hdown : ((s.dropLane l).lane l).alive = false := by
    rw [State.lane_dropLane_same]
    rfl
  cases l with
  | upstream =>
    have hidle : (s.dropLane .upstream).link.upTx.busy = false := Transmitter.busy_cut _
    refine (State.linkGood_iff _).mpr ⟨⟨hlanes, hready.own, hready.returns, hready.thru, ?_, fun _ => hidle,
      fun hbusy => ?_⟩, fun halive => ?_⟩
    · rw [hother .thru (by decide)]
      exact hready.thruDown
    · rw [hidle] at hbusy
      cases hbusy
    · rw [hdown] at halive
      cases halive
  | thru =>
    have hup := hother .upstream (by decide)
    refine (State.linkGood_iff _).mpr ⟨⟨hlanes, hready.own, hready.returns,
      iff_of_false (Bool.eq_false_iff.mp (Transmitter.busy_cut _)) (fun hne => hne rfl), fun _ => rfl, ?_,
      hready.served⟩, ?_⟩
    · rw [hup]
      exact hready.upDown
    · unfold State.ArbiterServes
      rw [hup]
      exact harbiter
  | output p =>
    have hup := hother .upstream nofun
    have hthru := hother .thru nofun
    refine (State.linkGood_iff _).mpr ⟨⟨hlanes, hready.own, hready.returns, hready.thru, ?_, ?_, hready.served⟩, ?_⟩
    · rw [hthru]
      exact hready.thruDown
    · rw [hup]
      exact hready.upDown
    · unfold State.ArbiterServes
      rw [hup]
      exact harbiter

theorem State.linkGood_keptByLink : State.KeptByLink State.LinkGood where
  lane := fun {s l} f h halive hvalid => by
    have hlanes := ((State.linkGood_iff s).mp h).1.lanes
    refine State.linkGood_of_lanes rfl (State.lanes_updLane_valid hlanes (hvalid (hlanes (laneIndex l)))) (fun m => ?_) h
    by_cases hm : m = l
    · subst hm
      rw [State.lane_updLane_same, halive]
    · rw [State.lane_updLane_other s f hm]
  report := State.linkGood_of_eq rfl
  executor h _ := State.linkGood_of_eq rfl h
  joinOwn h hplace := ((State.linkGood_iff _).mp h).1.joinOwn hplace _
  joinReturn h hplace := ((State.linkGood_iff _).mp h).1.joinReturn hplace _
  forward := State.linkGood_forward
  endForward := State.linkGood_endForward
  endUpstream h := ((State.linkGood_iff _).mp h).1.endUpstream
  becomeAlive := State.linkGood_becomeAlive
  dropLane := State.linkGood_dropLane

/-! ## Resets and the other blocks (R140, R160, R161) -/

theorem Link.clearLaneCounters_lane (k : Link) (j : Fin 8) :
    k.clearLaneCounters.lanes[j] = { k.lanes[j] with counters := {} } := by
  simp [Link.clearLaneCounters]

theorem State.linkGood_clearLaneCounters {s t : State} (hlink : t.link = s.link.clearLaneCounters) (h : s.LinkGood) :
    t.LinkGood := by
  have hlanes : t.link.lanes = s.link.clearLaneCounters.lanes := congrArg Link.lanes hlink
  refine State.linkGood_of_lanes (by rw [hlink]; rfl) (fun k => ?_) (State.alive_clearLaneCounters hlanes) h
  rw [hlanes, Link.clearLaneCounters_lane]
  exact ((State.linkGood_iff s).mp h).1.lanes k

/-- A link whose queues are emptied and whose transmissions are cut (R140). -/
theorem State.linkGood_resetFull {s : State} (h : s.LinkGood) : s.resetFull.LinkGood := by
  have hlanes := ((State.linkGood_iff s).mp h).1.lanes
  have hidle : s.resetFull.link.upTx.busy = false := Transmitter.busy_cut _
  refine (State.linkGood_iff _).mpr ⟨⟨fun k => ?_, Nat.zero_le _, Nat.zero_le _,
    iff_of_false (Bool.eq_false_iff.mp (Transmitter.busy_cut _)) (fun hne => hne rfl), fun _ => rfl, fun _ => hidle,
    fun hbusy => ?_⟩, fun _ _ => ⟨rfl, rfl⟩⟩
  · have hlane : s.resetFull.link.lanes[k] = { s.link.lanes[k] with counters := {} } := Link.clearLaneCounters_lane s.link k
    rw [hlane]
    exact hlanes k
  · rw [hidle] at hbusy
    cases hbusy

theorem State.linkGood_workKept : Work.Kept fun w => w.state.LinkGood where
  loadEntry h _ := State.linkGood_of_eq rfl h
  curves := State.linkGood_of_eq rfl
  configurePort h _ := State.linkGood_of_eq rfl h
  configureSource := fun {w n x} h => by
    obtain he | ⟨_, -, he⟩ := State.configureSource_cases n x w.state <;> rw [he] <;> exact State.linkGood_of_eq rfl h
  clearConditions := State.linkGood_of_eq rfl
  resetFull := State.linkGood_resetFull
  resetRuntime := State.linkGood_of_eq rfl
  resetCounters := State.linkGood_clearLaneCounters rfl

theorem State.linkGood_clearGroup {s : State} {g : Group} (h : s.LinkGood) : (s.clearGroup g).LinkGood := by
  cases g with
  | link => exact State.linkGood_clearLaneCounters rfl h
  | part => exact State.linkGood_of_eq rfl h
  | port p => exact State.linkGood_of_eq rfl h

theorem State.linkGood_port : State.KeptByPort State.LinkGood :=
  .of_compose (fun _ => State.linkGood_of_eq rfl) (State.linkGood_of_eq (by rw [State.compose_frame]))

theorem State.linkGood_kept : State.Kept State.LinkGood where
  toKeptByLink := State.linkGood_keptByLink
  takeCueIntake h _ _ := State.linkGood_of_eq (State.takeCueIntake_link _ _) h
  takePace := State.linkGood_port.takePace
  endDest := State.linkGood_port.endDest
  expireTimer := State.linkGood_port.expireTimer
  expireAtInstant := fun {s} h => by
    obtain he | ⟨_, _, -, he⟩ := State.expireAtInstant_cases s <;> rw [he]
    · exact h
    · exact State.linkGood_of_eq rfl h
  runBatch h hrun _ := State.runBatch_keeps State.linkGood_workKept (State.linkGood_of_eq rfl)
    State.linkGood_clearGroup h hrun

/-- Settles O59. -/
theorem stepKeepsLinkGood : Obligations.StepKeepsLinkGood := fun _ _ =>
  State.linkGood_kept.step
    (fun _ _ _ => State.linkGood_of_eq (s := State.reset) rfl invariantsHoldAtReset.2.2.2.2.1)
    (fun _ _ _ => State.linkGood_of_eq rfl) fun _ h => h

end Sys2Proof.Machine

/-! # Receive lanes and transmissions (chapter 07), and the faults of a batch (chapter 08) -/

namespace Sys2Proof.Machine

/-! ## The end of a transmission (R133, R137) -/

theorem Transmitter.ended_of_sending {tx : Transmitter} {x : Transmission} {now : Time} (hsending : tx.sending = some x)
    (hreached : reached now x.ends = true) : tx.ended now = true := by
  simpa only [Transmitter.ended, hsending] using hreached

/-- The queues after the frame in transmission has left (R137). -/
theorem Link.leave_queues (k : Link) :
    k.leave.own = (if k.lastServed = .own then k.own.tail else k.own)
    ∧ k.leave.returns = (if k.lastServed = .ret then k.returns.tail else k.returns)
    ∧ k.leave = { k with own := k.leave.own, returns := k.leave.returns } := by
  unfold Link.leave
  cases k.lastServed <;> exact ⟨rfl, rfl, rfl⟩

/-- Settles O24. -/
theorem transmitEndFreesAPlace : Obligations.TransmitEndFreesAPlace := by
  refine ⟨fun s x hsending hreached => ?_, fun s x hsending hreached => ?_⟩
  · have hexec : exec .thruTransmitEnd s = .next s.endForward :=
      congrArg Host.Outcome.next (if_pos (Transmitter.ended_of_sending hsending hreached))
    rw [hexec, State.endForward_frame, State.endForward_thruTx] <;> rfl
  · have hexec : exec .upstreamTransmitEnd s = .next s.endUpstream :=
      congrArg Host.Outcome.next (if_pos (Transmitter.ended_of_sending hsending hreached))
    obtain ⟨hown, hreturns, hleave⟩ := s.link.leave_queues
    let u : State := { s with link := { s.link.leave with upTx := s.link.upTx.finish } }
    have hu : u = { s with link := { s.link with
        own := s.link.leave.own, returns := s.link.leave.returns, upTx := s.link.upTx.finish } } := by
      change ({ s with link := { s.link.leave with upTx := s.link.upTx.finish } } : State) = _
      rw [hleave]
    have hlane : u.lane .upstream = s.lane .upstream := by rw [hu]; rfl
    have harbitrated := State.arbitrate_arbitrated u
    rw [hlane] at harbitrated
    refine ⟨u.arbitrate, hexec, ?_, ?_, ?_, harbitrated.of_agree (by rw [hu]) (by rw [hu]; rfl) (by rw [hu])⟩
    · rw [State.arbitrate_frame, hu]
    · rw [State.arbitrate_frame, ← hown]
    · rw [State.arbitrate_frame, ← hreturns]

/-! ## Batch faults (R144 to R146) -/

theorem replyPlace_iff (s : State) : s.replyPlace = true ↔ s.link.own.length < 4 := decide_eq_true_iff

theorem payloadOf_loneResult (st : Status) : payloadOf (loneResult st) = [0, st.code, 0] := rfl

theorem State.batchFault_of_place {s : State} (h : s.link.own.length < 4) (st : Status) (tag : BitVec 8) :
    s.batchFault st tag .unit = s.countBatchFault.joinOwn (replyFrame s.unitAddress tag [0, st.code, 0]) :=
  if_pos ((replyPlace_iff s).mpr h)

theorem State.batchFault_of_full {s : State} (h : 4 ≤ s.link.own.length) (st : Status) (tag : BitVec 8) :
    s.batchFault st tag .unit = s.countBatchFault.countRequestDropped :=
  if_neg fun hplace => absurd ((replyPlace_iff s).mp hplace) (Nat.not_lt.mpr h)

/-- A reply of this unit joins the own-reply queue, and the arbiter chooses. -/
theorem State.joinOwn_replied (s : State) (tag : BitVec 8) (payload : List Byte) :
    State.Replied (s.lane .upstream).alive tag payload s (s.joinOwn (replyFrame s.unitAddress tag payload)) :=
  ⟨by rw [State.joinOwn_frame], State.joinOwn_arbitrated _ s⟩

/-- What a batch fault leaves: counted, and answered, dropped or unanswered (R146). -/
theorem State.batchFault_faulted (s : State) (st : Status) (tag : BitVec 8) (addr : Addressing) :
    State.Faulted (s.lane .upstream).alive st tag addr s (s.batchFault st tag addr)
    ∧ (s.batchFault st tag addr).conditions.linkError = s.conditions.linkError := by
  unfold State.Faulted
  cases addr with
  | broadcast =>
    simp only [reduceCtorEq, false_and, if_false]
    exact ⟨⟨rfl, rfl, rfl, rfl, rfl⟩, rfl⟩
  | unit =>
    by_cases hfull : 4 ≤ s.link.own.length
    · rw [State.batchFault_of_full hfull, if_pos ⟨rfl, hfull⟩]
      exact ⟨⟨rfl, rfl, rfl, rfl, rfl⟩, rfl⟩
    · rw [State.batchFault_of_place (Nat.lt_of_not_le hfull), if_neg fun h => hfull h.2, if_pos rfl]
      have hreplied := State.joinOwn_replied s.countBatchFault tag [0, st.code, 0]
      have hframe := State.joinOwn_frame (replyFrame s.unitAddress tag [0, st.code, 0]) s.countBatchFault
      refine ⟨⟨?_, ?_, hreplied⟩, ?_⟩
      · rw [hframe]
        rfl
      · rw [hframe]
        rfl
      · rw [hframe]
        rfl

/-! ## A discarded frame, and its report (R123, R126, R128, R130, R145) -/

/-- The lane changes, LINK_ERROR stands as given, and the discard is reported. -/
def State.discardOn (l : Lane) (f : RxLane → RxLane) (linkError : Bool) (s : State) : State :=
  ({ s.updLane l f with conditions := { s.conditions with linkError := linkError } } : State).reportOn l

/-- What a report leaves, from a state whose upstream lane is ALIVE or not. -/
theorem State.reportOn_reported {alive : Bool} (l : Lane) (u : State)
    (halive : l = .upstream → (u.lane .upstream).alive = alive) :
    State.Reported alive l u (u.reportOn l) ∧ State.OnlyReceiveSide u (u.reportOn l)
    ∧ (u.reportOn l).conditions.linkError = u.conditions.linkError := by
  cases l with
  | thru | output p => exact ⟨⟨rfl, rfl, rfl, rfl, rfl, rfl⟩, rfl, rfl⟩
  | upstream =>
    change State.Reported alive .upstream u u.reportDiscard ∧ State.OnlyReceiveSide u u.reportDiscard
      ∧ u.reportDiscard.conditions.linkError = u.conditions.linkError
    unfold State.Reported
    cases hmode : u.executor with
    | opened tag addr start frames =>
      obtain ⟨hfaulted, herror⟩ := State.batchFault_faulted { u with executor := .draining tag addr } .batchBroken tag addr
      have hframe := State.batchFault_frame .batchBroken tag addr { u with executor := .draining tag addr }
      have hlane : (({ u with executor := .draining tag addr } : State).lane .upstream).alive = alive := halive rfl
      rw [hlane] at hfaulted
      rw [State.reportDiscard_opened u tag addr start frames hmode]
      refine ⟨⟨by rw [hframe], hfaulted⟩, ?_, herror⟩
      unfold State.OnlyReceiveSide
      rw [hframe]
    | idle | draining tag addr =>
      rw [State.reportDiscard_closed u (by rw [hmode]; exact fun _ _ _ _ => nofun)]
      exact ⟨⟨rfl, rfl, rfl, rfl, rfl, rfl⟩, rfl, rfl⟩

/-- A discard on a lane that stays ALIVE: one lane changes, and the report is made. -/
theorem State.discardOn_discards {l : Lane} {f : RxLane → RxLane} {s : State} (linkError : Bool)
    (halive : (f (s.lane l)).alive = true) :
    State.OnlyReceiveSide s (s.discardOn l f linkError) ∧ State.OnlyLane l s (s.discardOn l f linkError)
    ∧ (s.discardOn l f linkError).lane l = f (s.lane l)
    ∧ (s.discardOn l f linkError).conditions.linkError = linkError
    ∧ State.Reported true l s (s.discardOn l f linkError) := by
  let u : State := { s.updLane l f with conditions := { s.conditions with linkError := linkError } }
  have hlanes : (u.reportOn l).link.lanes = (s.updLane l f).link.lanes := State.lanes_reportOn l u
  obtain ⟨hreported, honly, herror⟩ := State.reportOn_reported (alive := true) l u (by
    rintro rfl
    have hlane : u.lane .upstream = f (s.lane .upstream) := State.lane_updLane_same s .upstream f
    rw [hlane, halive])
  refine ⟨honly, fun m hm => ?_, ?_, herror, hreported⟩
  · exact (State.lane_congr hlanes m).trans (State.lane_updLane_other s f hm)
  · exact (State.lane_congr hlanes l).trans (State.lane_updLane_same s l f)

theorem State.abortFrame_eq (l : Lane) (s : State) :
    (s.setLink l (.alive 0)).abortFrame l =
      s.discardOn l (fun r =>
        { link := .alive 0, asm := none,
          counters := { r.counters with abortedFrames := addSat r.counters.abortedFrames 1 } })
        s.conditions.linkError := by
  simp only [State.abortFrame, State.countAborted, State.setAsm, State.setLink, State.updLane_updLane]
  rfl

theorem State.breakFrame_eq (l : Lane) (next : Option Frame) (s : State) :
    (s.setLink l (.alive 0)).breakFrame l next =
      s.discardOn l (fun r =>
        { link := .alive 0, asm := next,
          counters := { r.counters with badFrames := addSat r.counters.badFrames 1 } }) true := by
  have hraise : ∀ (u : State) (f : RxLane → RxLane), u.raiseLinkError.updLane l f = (u.updLane l f).raiseLinkError :=
    fun _ _ => rfl
  simp only [State.breakFrame, State.countBadFrame, State.setAsm, State.setLink, hraise, State.updLane_updLane]
  rfl

theorem State.failFrame_eq_discardOn (l : Lane) (why : FrameFault) (s : State) :
    (s.setLink l (.alive 0)).failFrame l why =
      s.discardOn l (fun r => { link := .alive 0, asm := none, counters := r.counters.countFault why }) true := by
  rw [State.failFrame_eq, State.setLink, State.updLane_updLane]
  rfl

theorem State.valid_of_breaks {sym : Symbol} {bytes : Frame} (h : breaksFrame sym bytes = true) : sym.valid = true := by
  cases sym with
  | data b | startSym | idleSym => rfl
  | endSym | abortSym | invalid | noSignal => cases h

/-- Settles O21: each command is the symbol time of its symbol, and each symbol time here is one discard. -/
theorem discardedFrameIsCountedOnce : Obligations.DiscardedFrameIsCountedOnce := by
  intro l s bytes hframe
  refine ⟨?_, fun sym hsym => ?_, fun why hfault => ?_⟩
  · have hexec : exec (.frameAborted l) s = .next (s.receive l .abortSym) :=
      exec_of_stimulus rfl (Option.isSome_iff_exists.mpr ⟨bytes, hframe⟩)
    rw [hexec, State.receive_inFrame hframe rfl, State.abortFrame_eq]
    exact ⟨_, rfl, State.discardOn_discards _ rfl⟩
  · have hbreaks : breaksFrame sym bytes = true := by
      obtain rfl | rfl | ⟨⟨b, rfl⟩, hlong⟩ := hsym
      · rfl
      · rfl
      · exact decide_eq_true hlong
    have hexec : exec (.badFrameSymbol l sym) s = .next (s.receive l sym) :=
      exec_of_stimulus rfl (by simp only [State.eventHolds, hframe, hbreaks])
    rw [hexec, State.receive_breaksFrame hframe hbreaks, State.breakFrame_eq]
    exact ⟨_, rfl, State.discardOn_discards _ rfl⟩
  · rw [exec_frameCheckFailed_of_fault hframe hfault, State.failFrame_eq_discardOn]
    exact ⟨_, rfl, State.discardOn_discards _ rfl⟩

/-! ## Code errors (R123, R124, log 16) -/

/-- The lane after a code error: counted, and between frames. -/
def RxLane.codeError (r : RxLane) : RxLane :=
  { r with asm := none, counters := { r.counters with codeErrors := addSat r.counters.codeErrors 1 } }

theorem State.invalidCode_of_frame {l : Lane} {s : State} (h : (s.lane l).asm.isSome = true) :
    s.invalidCode l = s.discardOn l RxLane.codeError true := by
  obtain ⟨bytes, hasm⟩ := Option.isSome_iff_exists.mp h
  have hasm' : ((s.countCodeError l).lane l).asm = some bytes := by simpa [State.countCodeError] using hasm
  have hraise : ∀ (u : State) (f : RxLane → RxLane), u.raiseLinkError.updLane l f = (u.updLane l f).raiseLinkError :=
    fun _ _ => rfl
  simp only [State.invalidCode, hasm']
  simp only [State.setAsm, State.countCodeError, hraise, State.updLane_updLane]
  rfl

theorem State.invalidCode_between {l : Lane} {s : State} (h : (s.lane l).asm = none) :
    s.invalidCode l = s.countCodeError l := by
  have hasm' : ((s.countCodeError l).lane l).asm = none := by simpa [State.countCodeError] using h
  simp only [State.invalidCode, hasm']

/-- What a code error leaves, but for the fault run. -/
theorem State.invalidCode_counted {l : Lane} {s : State} {run : Nat} (hlink : (s.lane l).link = .alive run) :
    State.OnlyReceiveSide s (s.invalidCode l) ∧ State.OnlyLane l s (s.invalidCode l)
    ∧ (s.invalidCode l).lane l = (s.lane l).codeError
    ∧ (s.invalidCode l).conditions.linkError = true
    ∧ (if (s.lane l).asm.isSome then State.Reported true l s (s.invalidCode l) else State.NoFault s (s.invalidCode l)) := by
  cases hasm : (s.lane l).asm with
  | none =>
    rw [State.invalidCode_between hasm]
    refine ⟨rfl, fun m hm => ?_, ?_, rfl, rfl, rfl, rfl, rfl, rfl, rfl⟩
    · simp [State.countCodeError, hm]
    · simp [State.countCodeError, RxLane.codeError, hasm]
  | some bytes =>
    rw [State.invalidCode_of_frame (by rw [hasm]; rfl)]
    have halive : (s.lane l).codeError.alive = true := (RxLane.alive_iff _).mpr ⟨run, hlink⟩
    exact State.discardOn_discards true halive

/-- Settles O20. -/
theorem codeErrorIsCounted : Obligations.CodeErrorIsCounted := by
  intro l s run hlink
  have hexec : exec (.codeError l) s = .next ((s.invalidCode l).faultTime l run) := by
    rw [exec_of_stimulus (c := .codeError l) rfl ((RxLane.alive_iff _).mpr ⟨run, hlink⟩), State.receive_of_alive hlink]
  refine ⟨fun hrun => ?_, fun hrun => ?_⟩
  · rw [hexec, State.faultTime_of_ge hrun, exec_lockLoss_invalid (State.lossDue_iff.mpr ⟨run, hlink, hrun⟩)]
  · obtain ⟨hside, honly, hlane, herror, hreport⟩ := State.invalidCode_counted hlink
    rw [hexec, State.faultTime_of_lt hrun]
    refine ⟨_, rfl, ?_, fun m hm => (State.lane_setLink_other _ _ hm).trans (honly m hm), ?_, herror, hreport⟩
    · unfold State.OnlyReceiveSide at hside ⊢
      rw [hside]
      rfl
    · rw [State.lane_setLink_same, hlane]
      rfl

/-! ## Gaining and losing lock (R124) -/

theorem State.becomeAlive_upstream (s : State) : s.becomeAlive .upstream = (s.endFrame .upstream).arbitrate := by
  rw [State.endFrame_eq_updLane]
  rfl

theorem State.becomeAlive_other {l : Lane} (h : l ≠ .upstream) (s : State) : s.becomeAlive l = s.endFrame l := by
  rw [State.endFrame_eq_updLane]
  cases l with
  | upstream => exact absurd rfl h
  | thru | output p => rfl

/-- Settles O18. -/
theorem fourthIdleMakesLaneAlive : Obligations.FourthIdleMakesLaneAlive := by
  intro l s hdue
  have hexec : exec (.linkAlive l) s = .next (s.becomeAlive l) := congrArg Host.Outcome.next (if_pos hdue)
  by_cases hl : l = .upstream
  · subst hl
    let u := s.endFrame .upstream
    have hlane : (u.lane .upstream).alive = true := by rw [State.lane_endFrame_same]; rfl
    have harbitrated := State.arbitrate_arbitrated u
    rw [hlane] at harbitrated
    rw [hexec, State.becomeAlive_upstream]
    refine ⟨_, rfl, State.frameTaken_of_lanes (by rw [State.arbitrate_frame]), ?_, ?_⟩
    · rw [State.arbitrate_frame]
      rfl
    · rw [if_pos rfl]
      exact harbitrated.of_agree rfl rfl rfl
  · rw [hexec, State.becomeAlive_other hl]
    refine ⟨_, rfl, State.frameTaken_of_lanes rfl, rfl, ?_⟩
    rw [if_neg hl]
    exact ⟨rfl, rfl, rfl⟩

/-- Settles O19: the lane is dropped, and its loss is reported. -/
theorem sixteenthFaultLosesLock : Obligations.SixteenthFaultLosesLock := by
  intro l s hdue
  obtain ⟨run, hlink, hrun⟩ := State.lossDue_iff.mp hdue
  have hdue' : (s.invalidCode l).lossDue l = true :=
    State.lossDue_iff.mpr ⟨run, (State.link_invalidCode l s).trans hlink, hrun⟩
  have hlanes : ((s.dropLane l).reportOn l).link.lanes = (s.dropLane l).link.lanes := State.lanes_reportOn l _
  rw [exec_lockLoss_invalid hdue, exec_lockLoss_noSignal hdue', exec_lockLoss_noSignal hdue, State.loseLock_eq l s]
  refine ⟨rfl, _, rfl, fun m hm => ?_, ?_, ?_⟩
  · rw [State.lane_congr hlanes, State.lane_dropLane_other s hm]
  · rw [State.lane_congr hlanes, State.lane_dropLane_same]
  · cases l with
    | upstream =>
      obtain ⟨hreported, honly, herror⟩ := State.reportOn_reported (alive := false) .upstream (s.dropLane .upstream)
        fun _ => by rw [State.lane_dropLane_same]; rfl
      exact ⟨honly, herror, hreported⟩
    | thru => rfl
    | output p =>
      exact ⟨rfl, fun q hq => State.ports_updPort_other _ _ hq, State.ports_updPort_same _ p _⟩

/-! ## Symbol times that complete nothing (R123, R124, R126) -/

/-- Settles O22. -/
theorem symbolTimeFeedsTheLane : Obligations.SymbolTimeFeedsTheLane := by
  intro l sym s lane h
  -- Each case is one update of the lane.
  suffices hupd : ∃ f : RxLane → RxLane, s.receive l sym = s.updLane l f ∧ f (s.lane l) = lane by
    obtain ⟨f, hreceive, rfl⟩ := hupd
    have hexec : exec (.symbolTime l sym) s = .next (s.updLane l f) := congrArg _ hreceive
    exact ⟨_, hexec, rfl, State.lane_updLane_same s l f, fun m hm => State.lane_updLane_other s f hm⟩
  obtain ⟨run, hlink, ⟨hsym, rfl⟩ | ⟨rfl, hrun, rfl⟩⟩ | ⟨run, hlink, hcase⟩ := h
  · rw [State.receive_of_down hlink, if_neg hsym]
    exact ⟨_, rfl, rfl⟩
  · rw [State.receive_of_down hlink, if_pos rfl, if_pos hrun]
    exact ⟨_, rfl, rfl⟩
  · obtain ⟨rfl, hrun, rfl⟩ | ⟨hvalid, hasm, rfl⟩ | ⟨b, bytes, rfl, hasm, hroom, rfl⟩ := hcase
    · rw [State.receive_of_alive hlink]
      exact ⟨_, State.faultTime_of_lt hrun l s, rfl⟩
    · rw [State.receive_of_valid hlink hvalid]
      simp only [State.assemble, State.lane_setLink_same, hasm]
      by_cases hstart : sym = .startSym
      · subst hstart
        exact ⟨_, State.updLane_updLane s l _ _, rfl⟩
      · refine ⟨fun r => { r with link := .alive 0 }, ?_, ?_⟩
        · cases sym with
          | startSym => exact absurd rfl hstart
          | data _ | endSym | abortSym | idleSym | invalid | noSignal => rfl
        · rw [if_neg hstart]
          exact congrArg (fun x : Option Frame => ({ s.lane l with link := .alive 0, asm := x } : RxLane)) hasm
    · rw [State.receive_inFrame (State.inFrame_eq_some_iff.mpr ⟨⟨run, hlink⟩, hasm⟩) rfl]
      exact ⟨_, (if_pos hroom).trans (State.updLane_updLane s l _ _), rfl⟩

end Sys2Proof.Machine

/-! # The management executor (chapter 08): the END of a request frame -/

namespace Sys2Proof.Machine

/-! ## A request frame is routed by its address (R131, R132) -/

theorem exec_requestFrame_of_good {s : State} {f : Frame} (h : s.goodFrame .upstream .request = some f) :
    exec .requestFrame s = .next ((s.endFrame .upstream).routeRequest f) := by
  change execRequestFrame s = _
  simp only [execRequestFrame, h]

theorem State.addressing_eq (s : State) (a : Byte) :
    s.addressing a =
      if a.toNat = 15 then some .broadcast else if a.toNat = s.unitAddress.toNat then some .unit else none := by
  have hbroadcast : a = 15 ↔ a.toNat = 15 := BitVec.toNat_inj.symm
  have hunit : a = s.unitAddress.setWidth 8 ↔ a.toNat = s.unitAddress.toNat := by
    rw [← BitVec.toNat_inj, BitVec.toNat_setWidth_of_le (by decide)]
  simp only [State.addressing, hbroadcast, hunit]

/-- A broadcast request is forwarded beside its execution, one of this unit is not (R132). -/
def State.forwardBeside (addr : Addressing) (f : Frame) (s : State) : State :=
  match addr with
  | .unit => s
  | .broadcast => s.forward f

/-- Another thru transmitter and forwarding queue. -/
def State.withThru (tx : Transmitter) (queue : List Frame) (s : State) : State :=
  { s with link := { s.link with thruTx := tx, forwarding := queue } }

theorem State.forwardBeside_frame (addr : Addressing) (f : Frame) (s : State) :
    ∃ tx queue, s.forwardBeside addr f = s.withThru tx queue := by
  cases addr with
  | unit => exact ⟨_, _, rfl⟩
  | broadcast => exact ⟨_, _, State.forward_frame f s⟩

theorem State.forwardBeside_routed (addr : Addressing) (f : Frame) (s : State) :
    State.RoutedBy addr f s (s.forwardBeside addr f) := by
  cases addr with
  | unit => exact ⟨rfl, rfl⟩
  | broadcast => exact State.forward_forwarded f s

/-- The routing of a request reads the timebase, the thru pair and the forwarding queue alone. -/
theorem State.RoutedBy.of_agree {addr : Addressing} {f : Frame} {s u t : State} (h : State.RoutedBy addr f u t)
    (hnow : u.now = s.now) (hlane : u.lane .thru = s.lane .thru) (htx : u.link.thruTx = s.link.thruTx)
    (hqueue : u.link.forwarding = s.link.forwarding) : State.RoutedBy addr f s t := by
  cases addr with
  | unit => exact ⟨h.1.trans hqueue, h.2.trans htx⟩
  | broadcast => exact State.Forwarded.of_agree h hnow hlane htx hqueue

theorem exec_requestFrame_of_addressed {s : State} {f : Frame} {addr : Addressing}
    (hgood : s.goodFrame .upstream .request = some f) (haddr : s.addressing (frameAddress f) = some addr) :
    exec .requestFrame s = .next (((s.endFrame .upstream).takeRequest addr f).forwardBeside addr f) := by
  have haddr' : (s.endFrame .upstream).addressing (frameAddress f) = some addr := haddr
  rw [exec_requestFrame_of_good hgood]
  cases addr <;> simp only [State.routeRequest, haddr'] <;> rfl

/-- A request addressed to the executor: what the executor takes, then the routing of the frame. -/
theorem exec_requestFrame_routes {s u : State} {f : Frame} {addr : Addressing}
    (hgood : s.goodFrame .upstream .request = some f) (haddr : s.addressing (frameAddress f) = some addr)
    (htake : (s.endFrame .upstream).takeRequest addr f = u) (hnow : u.now = s.now)
    (hlanes : u.link.lanes = (s.endFrame .upstream).link.lanes) (htx : u.link.thruTx = s.link.thruTx)
    (hqueue : u.link.forwarding = s.link.forwarding) :
    ∃ tx queue, exec .requestFrame s = .next (u.withThru tx queue)
      ∧ State.FrameTaken .upstream s (u.withThru tx queue) ∧ State.RoutedBy addr f s (u.withThru tx queue) := by
  obtain ⟨tx, queue, hthru⟩ := u.forwardBeside_frame addr f
  have hrouted := u.forwardBeside_routed addr f
  have hlane : u.lane .thru = s.lane .thru :=
    (State.lane_congr hlanes .thru).trans (State.lane_endFrame_other s (by decide))
  rw [hthru] at hrouted
  refine ⟨tx, queue, ?_, State.frameTaken_of_lanes hlanes, hrouted.of_agree hnow hlane htx hqueue⟩
  rw [exec_requestFrame_of_addressed hgood haddr, htake, hthru]

/-- Settles O27. -/
theorem requestForAnotherUnitIsForwarded : Obligations.RequestForAnotherUnitIsForwarded := by
  refine ⟨fun s a _ => s.addressing_eq a, fun s f hgood haddr => ?_⟩
  have haddr' : (s.endFrame .upstream).addressing (frameAddress f) = none := haddr
  have hroute : (s.endFrame .upstream).routeRequest f = (s.endFrame .upstream).forward f := by
    simp only [State.routeRequest, haddr']
  have hlane : (s.endFrame .upstream).lane .thru = s.lane .thru := State.lane_endFrame_other s (by decide)
  rw [exec_requestFrame_of_good hgood, hroute]
  refine ⟨_, rfl, State.frameTaken_of_lanes ?_, (State.forward_forwarded f _).of_agree rfl hlane rfl rfl, ?_⟩
  · rw [State.forward_frame]
  · rw [State.forward_frame]
    rfl

/-! ## What the executor takes, by its mode (R142, R143) -/

section

variable {s : State} {f : Frame} {addr addr' : Addressing} {tag : BitVec 8} {start : Time} {frames : List Frame}

theorem State.takeIdle_of_chain (h : frameChain f = true) :
    s.takeIdle addr f = { s with executor := .opened (frameTag f) addr s.now [f] } := if_pos h

theorem State.takeIdle_of_last (h : frameChain f = false) :
    s.takeIdle addr f = { s with executor := .idle }.closeBatch (frameTag f) addr [f] :=
  if_neg (Bool.eq_false_iff.mp h)

theorem State.takeRequest_of_idle (h : s.executor = .idle) : s.takeRequest addr f = s.takeIdle addr f := by
  simp only [State.takeRequest, h]

/-- A frame of the open batch, with room for it. -/
theorem State.takeRequest_of_room (h : s.executor = .opened (frameTag f) addr start frames) (hroom : frames.length < 4) :
    s.takeRequest addr f =
      if frameChain f then { s with executor := .opened (frameTag f) addr start (frames ++ [f]) }
      else { s with executor := .idle }.closeBatch (frameTag f) addr (frames ++ [f]) := by
  simp only [State.takeRequest, h, and_self, if_true]
  exact if_pos hroom

/-- A fifth frame of the open batch. -/
theorem State.takeRequest_of_full (h : s.executor = .opened (frameTag f) addr start frames) (hfull : 4 ≤ frames.length) :
    s.takeRequest addr f =
      { s with executor := if frameChain f then .draining (frameTag f) addr else .idle }.batchFault
        .batchTooLong (frameTag f) addr := by
  simp only [State.takeRequest, h, and_self, if_true]
  exact if_neg (Nat.not_lt.mpr hfull)

/-- A frame of another batch than the open one. -/
theorem State.takeRequest_of_broken (h : s.executor = .opened tag addr' start frames)
    (hother : ¬ (tag = frameTag f ∧ addr' = addr)) :
    s.takeRequest addr f = ({ s with executor := .idle }.batchFault .batchBroken tag addr').takeIdle addr f := by
  simp only [State.takeRequest, h]
  exact if_neg hother

theorem State.takeRequest_of_drained (h : s.executor = .draining (frameTag f) addr) :
    s.takeRequest addr f = { s with executor := if frameChain f then .draining (frameTag f) addr else .idle } := by
  simp only [State.takeRequest, h, and_self, if_true]
  split_ifs
  · rw [← h]
  · rfl

/-- A frame of another batch than the drained one. -/
theorem State.takeRequest_of_drain_over (h : s.executor = .draining tag addr')
    (hother : ¬ (tag = frameTag f ∧ addr' = addr)) :
    s.takeRequest addr f = { s with executor := .idle }.takeIdle addr f := by
  simp only [State.takeRequest, h]
  exact if_neg hother

end

/-- Settles O26: in each of the four cases the executor's mode alone changes, beside the routing. -/
theorem requestFrameOpensOrExtendsABatch : Obligations.RequestFrameOpensOrExtendsABatch := by
  intro s f addr after hgood haddr hcase
  let u := s.endFrame .upstream
  have htake : u.takeRequest addr f = { u with executor := after } := by
    obtain ⟨hmode, hchain, rfl⟩ | ⟨start, frames, hmode, hroom, hchain, rfl⟩ | ⟨hmode, rfl⟩
      | ⟨tag, addr', hmode, hother, hchain, rfl⟩ := hcase
    · rw [State.takeRequest_of_idle (s := u) hmode, State.takeIdle_of_chain hchain]
      rfl
    · rw [State.takeRequest_of_room (s := u) hmode hroom, if_pos hchain]
    · rw [State.takeRequest_of_drained (s := u) hmode]
    · rw [State.takeRequest_of_drain_over (s := u) hmode hother, State.takeIdle_of_chain hchain]
      rfl
  obtain ⟨tx, queue, hexec, htaken, hrouted⟩ := exec_requestFrame_routes hgood haddr htake rfl rfl rfl rfl
  exact ⟨_, hexec, htaken, rfl, hrouted⟩

/-! ## Batch faults of a request frame and of the batch timeout (R142, R144) -/

theorem exec_batchTimeout_of_expired {s : State} {tag : BitVec 8} {addr : Addressing} {start : Time} {frames : List Frame}
    (hmode : s.executor = .opened tag addr start frames) (hlate : 10000 ≤ since s.now start) :
    exec .batchTimeout s = .next ({ s with executor := .draining tag addr }.batchFault .batchTimeout tag addr) := by
  have hexpired : s.batchExpired = true := by
    simp only [State.batchExpired, hmode]
    exact decide_eq_true hlate
  have hexpire : s.expireBatch = { s with executor := .draining tag addr }.batchFault .batchTimeout tag addr := by
    simp only [State.expireBatch, hmode]
  rw [← hexpire]
  exact congrArg Host.Outcome.next (if_pos hexpired)

/-- A batch fault at the END of a request frame, with the executor in a mode. -/
def State.faultAtEnd (x : Executor) (st : Status) (tag : BitVec 8) (addr : Addressing) (s : State) : State :=
  ({ s.endFrame .upstream with executor := x } : State).batchFault st tag addr

section

variable (x : Executor) (st : Status) (tag : BitVec 8) (addr : Addressing) (s : State)

theorem State.faultAtEnd_frame :
    s.faultAtEnd x st tag addr =
      { s with
        link := { s.link with
          lanes := (s.endFrame .upstream).link.lanes, own := (s.faultAtEnd x st tag addr).link.own
          upTx := (s.faultAtEnd x st tag addr).link.upTx
          lastServed := (s.faultAtEnd x st tag addr).link.lastServed }
        executor := x
        counters := (s.faultAtEnd x st tag addr).counters
        conditions := (s.faultAtEnd x st tag addr).conditions } :=
  State.batchFault_frame st tag addr { s.endFrame .upstream with executor := x }

theorem State.now_faultAtEnd : (s.faultAtEnd x st tag addr).now = s.now := by
  rw [State.faultAtEnd_frame]

theorem State.faultAtEnd_with_executor : { s.faultAtEnd x st tag addr with executor := x } = s.faultAtEnd x st tag addr := by
  rw [State.faultAtEnd_frame]

/-- The fault finds the upstream lane ALIVE, since the END of the frame is a valid symbol. -/
theorem State.faultAtEnd_faulted :
    State.Faulted true st tag addr s (s.faultAtEnd x st tag addr)
    ∧ (s.faultAtEnd x st tag addr).conditions.linkError = s.conditions.linkError := by
  have hlane : (s.endFrame .upstream).lane .upstream = _ := State.lane_endFrame_same .upstream s
  have halive : (({ s.endFrame .upstream with executor := x } : State).lane .upstream).alive = true :=
    congrArg RxLane.alive hlane
  obtain ⟨hfaulted, herror⟩ := State.batchFault_faulted { s.endFrame .upstream with executor := x } st tag addr
  rw [halive] at hfaulted
  exact ⟨hfaulted, herror⟩

end

/-- A request frame at which a batch fault is taken, after which the executor is in a mode. -/
theorem exec_requestFrame_faults {s : State} {f : Frame} {addr addr' : Addressing} {x after : Executor} {st : Status}
    {tag : BitVec 8} (hgood : s.goodFrame .upstream .request = some f)
    (haddr : s.addressing (frameAddress f) = some addr)
    (htake : (s.endFrame .upstream).takeRequest addr f = { s.faultAtEnd x st tag addr' with executor := after }) :
    ∃ t, exec .requestFrame s = .next t ∧ State.FrameTaken .upstream s t ∧ State.RoutedBy addr f s t
      ∧ t = { s with link := { t.link with returns := s.link.returns }, executor := t.executor,
                     counters := t.counters, conditions := t.conditions }
      ∧ t.executor = after ∧ t.conditions.linkError = s.conditions.linkError ∧ State.Faulted true st tag addr' s t := by
  obtain ⟨tx, queue, hexec, htaken, hrouted⟩ := exec_requestFrame_routes hgood haddr htake
    (by rw [State.faultAtEnd_frame]) (by rw [State.faultAtEnd_frame]) (by rw [State.faultAtEnd_frame])
    (by rw [State.faultAtEnd_frame])
  obtain ⟨hfaulted, herror⟩ := s.faultAtEnd_faulted x st tag addr'
  refine ⟨_, hexec, htaken, hrouted, ?_, rfl, herror, hfaulted⟩
  rw [State.faultAtEnd_frame]
  rfl

/-- Settles O28. -/
theorem batchFaultIsCountedAndAnswered : Obligations.BatchFaultIsCountedAndAnswered := by
  refine ⟨fun s st tag addr => ?_, fun s tag addr start frames hmode hlate => ?_,
    fun s f addr addr' tag start frames hgood haddr hmode => ⟨fun hmatch hfull => ?_, fun hother hchain => ?_⟩⟩
  · obtain ⟨hfaulted, herror⟩ := State.batchFault_faulted s st tag addr
    exact ⟨hfaulted, herror, State.batchFault_frame st tag addr s⟩
  · have hframe := State.batchFault_frame .batchTimeout tag addr { s with executor := .draining tag addr }
    obtain ⟨hfaulted, herror⟩ :=
      State.batchFault_faulted { s with executor := .draining tag addr } .batchTimeout tag addr
    rw [exec_batchTimeout_of_expired hmode hlate]
    refine ⟨_, rfl, ?_, ?_, ?_, herror, hfaulted⟩
    · unfold State.OnlyReceiveSide
      rw [hframe]
    · rw [hframe]
    · rw [hframe]
  · obtain ⟨rfl, rfl⟩ := hmatch
    refine exec_requestFrame_faults (x := if frameChain f then .draining (frameTag f) addr' else .idle) hgood haddr ?_
    rw [State.takeRequest_of_full (s := s.endFrame .upstream) hmode hfull.ge, State.faultAtEnd_with_executor]
    rfl
  · refine exec_requestFrame_faults (x := .idle) hgood haddr ?_
    rw [State.takeRequest_of_broken (s := s.endFrame .upstream) hmode hother, State.takeIdle_of_chain hchain,
      ← State.now_faultAtEnd .idle .batchBroken tag addr' s]
    rfl

/-! ## A request frame that closes a batch (R142, R143, R147) -/

theorem State.with_idle {s : State} (h : s.executor = .idle) : { s with executor := .idle } = s := by
  rw [← h]

theorem State.closeBatch_of_full {s : State} (h : 4 ≤ s.link.own.length) (tag : BitVec 8) (frames : List Frame) :
    s.closeBatch tag .unit frames = s.countRequestDropped := by
  have hplace : s.replyPlace = false :=
    Bool.eq_false_iff.mpr fun hplace => absurd ((replyPlace_iff s).mp hplace) (Nat.not_lt.mpr h)
  unfold State.closeBatch
  rw [hplace]
  rfl

/-- With no request in it a batch changes nothing and has no results. -/
theorem State.runBatch_of_empty {s : State} {f : Frame} (h : framePayload f = []) : s.runBatch [f] = ([], some s) := by
  simp only [State.runBatch, List.flatMap_singleton, h]
  rfl

theorem State.closeBatch_of_empty {s : State} {f : Frame} (hplace : s.link.own.length < 4) (h : framePayload f = [])
    (tag : BitVec 8) : s.closeBatch tag .unit [f] = s.joinOwn (replyFrame s.unitAddress tag []) := by
  unfold State.closeBatch
  rw [(replyPlace_iff s).mpr hplace, State.runBatch_of_empty h]
  rfl

/-- Settles O29. -/
theorem requestFrameClosesABatch : Obligations.RequestFrameClosesABatch := by
  refine ⟨fun s u f addr held hgood haddr hlast hcase => ⟨State.frameTaken_of_lanes rfl, ?_⟩,
    fun s tag frames hfull => State.closeBatch_of_full hfull tag frames,
    fun s f hgood haddr hmode hlast hplace hpayload => ?_⟩
  · have htake : (s.endFrame .upstream).takeRequest addr f = u.closeBatch (frameTag f) addr (held ++ [f]) := by
      obtain ⟨hmode, rfl, rfl⟩ | ⟨start, hmode, hroom, rfl⟩ | ⟨tag, addr', hmode, hother, rfl, rfl⟩
        | ⟨tag, addr', start, frames, hmode, hother, rfl, rfl⟩ := hcase
      · rw [State.takeRequest_of_idle (s := s.endFrame .upstream) hmode, State.takeIdle_of_last hlast,
          State.with_idle (s := s.endFrame .upstream) hmode]
        rfl
      · rw [State.takeRequest_of_room (s := s.endFrame .upstream) hmode hroom, hlast]
        rfl
      · rw [State.takeRequest_of_drain_over (s := s.endFrame .upstream) hmode hother, State.takeIdle_of_last hlast]
        rfl
      · rw [State.takeRequest_of_broken (s := s.endFrame .upstream) hmode hother, State.takeIdle_of_last hlast,
          State.with_idle (by rw [State.batchFault_frame])]
        rfl
    rw [exec_requestFrame_of_addressed hgood haddr, htake]
    cases addr <;> rfl
  · let u := s.endFrame .upstream
    have htake : u.takeRequest .unit f = u.joinOwn (replyFrame u.unitAddress (frameTag f) []) := by
      rw [State.takeRequest_of_idle (s := u) hmode, State.takeIdle_of_last hlast, State.with_idle (s := u) hmode,
        State.closeBatch_of_empty (s := u) hplace hpayload]
    have hframe := State.joinOwn_frame (replyFrame u.unitAddress (frameTag f) []) u
    have hlane : u.lane .upstream = _ := State.lane_endFrame_same .upstream s
    have hreplied := State.joinOwn_replied u (frameTag f) []
    rw [congrArg RxLane.alive hlane] at hreplied
    refine ⟨_, (exec_requestFrame_of_addressed hgood haddr).trans (congrArg _ htake), ?_, ?_, hreplied⟩
    · exact State.frameTaken_of_lanes (by rw [hframe])
    · rw [hframe]
      rfl

end Sys2Proof.Machine

/-! # The management executor (chapter 08): what closing a batch comes to -/

namespace Sys2Proof.Machine

/-! ## A request is never refused as NOT_APPLIED (R147, R148) -/

theorem checkEntry_ne_notApplied (b : List Byte) : checkEntry b ≠ .error .notApplied := by
  unfold checkEntry
  split
  · dsimp only
    split_ifs <;> nofun
  · nofun

theorem checkEntries_ne_notApplied (n : Nat) (b : List Byte) : checkEntries n b ≠ .error .notApplied := by
  induction n generalizing b with
  | zero => nofun
  | succ n ih =>
    rw [checkEntries]
    cases hfirst : checkEntry b with
    | error e =>
      intro h
      cases h
      exact checkEntry_ne_notApplied b hfirst
    | ok x =>
      cases hrest : checkEntries n (b.drop 16) with
      | error e =>
        intro h
        cases h
        exact ih _ hrest
      | ok y => nofun

theorem State.checkPort_ne_notApplied (s : State) (b : List Byte) : s.checkPort b ≠ .error .notApplied := by
  unfold State.checkPort
  split
  · split
    · nofun
    · split_ifs <;> nofun
  · nofun

theorem checkCounters_ne_notApplied (b : List Byte) : checkCounters b ≠ .error .notApplied := by
  unfold checkCounters
  split
  · nofun
  · split
    · nofun
    · split_ifs <;> nofun

theorem Work.read_ne_notApplied {w : Work} {x : Except Status Status} (h : x ≠ .error .notApplied) :
    w.read x ≠ .error .notApplied := by
  cases x with
  | error e =>
    intro he
    cases he
    exact h rfl
  | ok st => nofun

theorem Work.loadRoutes_ne_notApplied (w : Work) (b : List Byte) : w.loadRoutes b ≠ .error .notApplied := by
  unfold Work.loadRoutes
  dsimp only
  split_ifs
  · nofun
  · nofun
  · cases hes : checkEntries (b.getD 1 0).toNat (b.drop 2) with
    | error e =>
      intro h
      cases h
      exact checkEntries_ne_notApplied _ _ hes
    | ok x => nofun

theorem Work.configurePort_ne_notApplied (w : Work) (b : List Byte) : w.configurePort b ≠ .error .notApplied := by
  unfold Work.configurePort
  cases hcheck : w.state.checkPort b with
  | error e =>
    intro h
    cases h
    exact State.checkPort_ne_notApplied _ _ hcheck
  | ok x => nofun

theorem Work.request_ne_notApplied (k : ReqKind) (b : List Byte) (w : Work) : w.request k b ≠ .error .notApplied := by
  cases k with
  | loadRoutes => exact w.loadRoutes_ne_notApplied b
  | readRoutes =>
    refine Work.read_ne_notApplied ?_
    unfold checkReadRoutes
    dsimp only
    split_ifs <;> nofun
  | loadCurve =>
    unfold Work.request Work.loadCurve
    dsimp only
    split_ifs <;> nofun
  | readCurve | readPort | readHistory =>
    refine Work.read_ne_notApplied ?_
    split_ifs <;> nofun
  | configurePort => exact w.configurePort_ne_notApplied b
  | configureSource | readSource | readConditions => nofun
  | clearConditions =>
    unfold Work.request Work.clearConditions
    dsimp only
    split_ifs <;> nofun
  | readCounters =>
    refine Work.read_ne_notApplied ?_
    cases hcheck : checkCounters b with
    | error e =>
      intro h
      cases h
      exact checkCounters_ne_notApplied b hcheck
    | ok x => nofun
  | resetUnit =>
    unfold Work.request Work.resetUnit
    dsimp only
    split <;> nofun

/-! ## One request in its place (R147) -/

theorem RawRequest.decode_iff (r : RawRequest) (k : ReqKind) (b : List Byte) :
    r.decode = some (k, b) ↔ ReqKind.ofCode r.code = some k ∧ r.body = some b ∧ k.lengthOk b = true := by
  unfold RawRequest.decode
  cases ReqKind.ofCode r.code with
  | none => simp
  | some k' =>
    cases r.body with
    | none => simp
    | some b' =>
      simp only [Option.ite_none_right_eq_some, Option.some.injEq, Prod.mk.injEq]
      constructor
      · rintro ⟨hlength, rfl, rfl⟩
        exact ⟨rfl, rfl, hlength⟩
      · rintro ⟨rfl, rfl, hlength⟩
        exact ⟨hlength, rfl, rfl⟩

namespace Work

variable {multi alone : Bool} {w : Work} {r : RawRequest} {k : ReqKind} {b : List Byte}

theorem take_of_undecoded (h : r.decode = none) : w.take multi alone r = .error .badRequest := by
  simp only [Work.take, h]

theorem take_of_decoded (h : r.decode = some (k, b)) :
    w.take multi alone r =
      if k.isRead && multi then .error .readInBatch
      else if k == .resetUnit && !alone then .error .resetNotAlone
      else w.request k b := by
  simp only [Work.take, h]

theorem take_of_readInBatch (h : r.decode = some (k, b)) (hread : k.isRead = true) (hmulti : multi = true) :
    w.take multi alone r = .error .readInBatch := by
  simp only [take_of_decoded h, hread, hmulti, Bool.and_self, if_true]

theorem take_of_resetNotAlone (h : r.decode = some (k, b)) (hreset : k = .resetUnit) (halone : alone = false) :
    w.take multi alone r = .error .resetNotAlone := by
  subst hreset halone
  rw [take_of_decoded h]
  rfl

/-- A request that its place allows is checked and written by its own entry. -/
theorem take_of_placed (h : r.decode = some (k, b)) (hread : k.isRead = true → multi = false)
    (hreset : k = .resetUnit → alone = true) : w.take multi alone r = w.request k b := by
  have hread' : (k.isRead && multi) = false := by
    cases hk : k.isRead with
    | false => rfl
    | true => exact hread hk
  have hreset' : (k == .resetUnit && !alone) = false := by
    by_cases hk : k = .resetUnit
    · simp [hreset hk]
    · simp [hk]
  simp only [take_of_decoded h, hread', hreset', Bool.false_eq_true, if_false]

theorem take_ne_notApplied (multi alone : Bool) (r : RawRequest) (w : Work) :
    w.take multi alone r ≠ .error .notApplied := by
  cases hdecode : r.decode with
  | none =>
    rw [take_of_undecoded hdecode]
    nofun
  | some x =>
    rw [take_of_decoded (k := x.1) (b := x.2) hdecode]
    split_ifs
    · nofun
    · nofun
    · exact w.request_ne_notApplied _ _

/-! ## The requests in order (R147) -/

variable {rs : List RawRequest} {st : Status} {sts : List Status} {w' w'' : Work} {i : Nat}

theorem takeAll_cons_of_refused (h : w.take multi alone r = .error st) :
    Work.takeAll multi alone (r :: rs) w = .error (0, st) := by
  rw [Work.takeAll, h]

theorem takeAll_cons_of_rest_refused {e : Status} (h : w.take multi alone r = .ok (st, w'))
    (hrest : Work.takeAll multi alone rs w' = .error (i, e)) :
    Work.takeAll multi alone (r :: rs) w = .error (i + 1, e) := by
  rw [Work.takeAll, h]
  simp only [hrest]

theorem takeAll_cons_of_taken (h : w.take multi alone r = .ok (st, w'))
    (hrest : Work.takeAll multi alone rs w' = .ok (sts, w'')) :
    Work.takeAll multi alone (r :: rs) w = .ok (st :: sts, w'') := by
  rw [Work.takeAll, h]
  simp only [hrest]

/-- A refusal is of one of the requests, and names its own reason. -/
theorem takeAll_refused (h : Work.takeAll multi alone rs w = .error (i, st)) : i < rs.length ∧ st ≠ .notApplied := by
  induction rs generalizing w i with
  | nil => cases h
  | cons r rs ih =>
    cases hfirst : w.take multi alone r with
    | error e =>
      rw [takeAll_cons_of_refused hfirst] at h
      cases h
      refine ⟨Nat.zero_lt_succ _, ?_⟩
      rintro rfl
      exact take_ne_notApplied multi alone r w hfirst
    | ok x =>
      cases hrest : Work.takeAll multi alone rs x.2 with
      | error e =>
        rw [takeAll_cons_of_rest_refused (st := x.1) (w' := x.2) (i := e.1) (e := e.2) hfirst hrest] at h
        cases h
        obtain ⟨hlt, hne⟩ := ih hrest
        exact ⟨Nat.succ_lt_succ hlt, hne⟩
      | ok y =>
        rw [takeAll_cons_of_taken (st := x.1) (w' := x.2) (sts := y.1) (w'' := y.2) hfirst hrest] at h
        cases h

theorem takeAll_length (h : Work.takeAll multi alone rs w = .ok (sts, w')) : sts.length = rs.length := by
  induction rs generalizing w sts with
  | nil =>
    cases h
    rfl
  | cons r rs ih =>
    cases hfirst : w.take multi alone r with
    | error e =>
      rw [takeAll_cons_of_refused hfirst] at h
      cases h
    | ok x =>
      cases hrest : Work.takeAll multi alone rs x.2 with
      | error e =>
        rw [takeAll_cons_of_rest_refused (st := x.1) (w' := x.2) (i := e.1) (e := e.2) hfirst hrest] at h
        cases h
      | ok y =>
        rw [takeAll_cons_of_taken (st := x.1) (w' := x.2) (sts := y.1) (w'' := y.2) hfirst hrest] at h
        cases h
        exact congrArg (· + 1) (ih hrest)

end Work

/-! ## The results of a batch (R148, R174) -/

theorem length_refusedResults (i : Nat) (st : Status) (rs : List RawRequest) :
    (refusedResults i st rs).length = rs.length := by
  induction rs generalizing i with
  | nil => cases i <;> rfl
  | cons r rs ih =>
    cases i with
    | zero => simp [refusedResults]
    | succ i => exact congrArg (· + 1) (ih i)

/-- The refusal stands at its place, NOT_APPLIED elsewhere. -/
theorem getElem?_refusedResults (i : Nat) (st : Status) (rs : List RawRequest) {k : Nat} (h : k < rs.length) :
    (refusedResults i st rs)[k]? =
      some { code := rs[k].code, status := if k = i then st else .notApplied, body := [] } := by
  induction rs generalizing i k with
  | nil => cases h
  | cons r rs ih =>
    cases i with
    | zero =>
      cases k with
      | zero => rfl
      | succ k =>
        have hk : k < rs.length := Nat.lt_of_succ_lt_succ h
        simp [refusedResults, hk]
    | succ i =>
      cases k with
      | zero => rfl
      | succ k =>
        have hrest := ih i (Nat.lt_of_succ_lt_succ h)
        simpa [refusedResults] using hrest

theorem State.answerAll_cons {r : RawRequest} {k : ReqKind} {b : List Byte} (h : r.decode = some (k, b))
    (rs : List RawRequest) (st : Status) (sts : List Status) (s : State) :
    State.answerAll (r :: rs) (st :: sts) s =
      ({ code := r.code, status := st, body := (s.answer k b).1 } :: (State.answerAll rs sts (s.answer k b).2).1,
       (State.answerAll rs sts (s.answer k b).2).2) := by
  rw [State.answerAll, h]

theorem State.length_answerAll {rs : List RawRequest} {sts : List Status} (h : sts.length = rs.length) (s : State) :
    (State.answerAll rs sts s).1.length = rs.length := by
  induction rs generalizing sts s with
  | nil => rfl
  | cons r rs ih =>
    cases sts with
    | nil => cases h
    | cons st sts =>
      rw [State.answerAll]
      exact congrArg (· + 1) (ih (Nat.succ.inj h) _)

/-! ## A closed batch (R147, R148) -/

/-- The requests of a batch's frames, in order. -/
def requestsOf (frames : List Frame) : List RawRequest := frames.flatMap fun f => decodePayload (framePayload f)

/-- What taking the requests of a batch in order comes to. -/
def State.takeBatch (frames : List Frame) (s : State) : Except (Nat × Status) (List Status × Work) :=
  Work.takeAll (decide (2 ≤ frames.length)) (decide ((requestsOf frames).length = 1)) (requestsOf frames)
    { state := s, resets := [] }

theorem State.runBatch_of_refused {s : State} {frames : List Frame} {i : Nat} {st : Status}
    (h : s.takeBatch frames = .error (i, st)) : s.runBatch frames = (refusedResults i st (requestsOf frames), none) := by
  unfold State.takeBatch requestsOf at h
  simp only [State.runBatch, h]
  rfl

theorem State.runBatch_of_taken {s : State} {frames : List Frame} {sts : List Status} {w : Work}
    (h : s.takeBatch frames = .ok (sts, w)) :
    s.runBatch frames =
      ((State.answerAll (requestsOf frames) sts w.settle).1, some (State.answerAll (requestsOf frames) sts w.settle).2) := by
  unfold State.takeBatch requestsOf at h
  simp only [State.runBatch, h]
  rfl

/-- A batch that applies nothing has one refused request, and no result with a body. -/
theorem State.runBatch_refused {s : State} {frames : List Frame} {results : List Result}
    (h : s.runBatch frames = (results, none)) :
    results.length = (requestsOf frames).length ∧ (∀ r ∈ results, r.body = [])
    ∧ ∃ i, i < results.length ∧ ∀ k (h : k < results.length), results[k].status = .notApplied ↔ k ≠ i := by
  cases htake : s.takeBatch frames with
  | ok x =>
    rw [State.runBatch_of_taken (sts := x.1) (w := x.2) htake] at h
    cases h
  | error x =>
    obtain ⟨i, st⟩ := x
    obtain ⟨hlt, hst⟩ := Work.takeAll_refused htake
    rw [State.runBatch_of_refused htake] at h
    cases h
    have hlength := length_refusedResults i st (requestsOf frames)
    have hresult (k : Nat) (hk : k < (refusedResults i st (requestsOf frames)).length) :=
      Option.some.inj ((List.getElem?_eq_getElem hk).symm.trans
        (getElem?_refusedResults i st (requestsOf frames) (hlength ▸ hk)))
    refine ⟨hlength, fun r hr => ?_, i, hlength ▸ hlt, fun k hk => ?_⟩
    · obtain ⟨k, hk, rfl⟩ := List.getElem_of_mem hr
      rw [hresult k hk]
    · rw [hresult k hk]
      by_cases hki : k = i
      · simp [hki, hst]
      · simp [hki]

theorem State.runBatch_taken_length {s s' : State} {frames : List Frame} {results : List Result}
    (h : s.runBatch frames = (results, some s')) : results.length = (requestsOf frames).length := by
  cases htake : s.takeBatch frames with
  | error x =>
    rw [State.runBatch_of_refused (i := x.1) (st := x.2) htake] at h
    cases h
  | ok x =>
    rw [State.runBatch_of_taken (sts := x.1) (w := x.2) htake] at h
    cases h
    exact State.length_answerAll (Work.takeAll_length htake) _

/-- A batch that is not dropped, by the length of its reply and what its requests come to. -/
theorem State.closeBatch_of_run {s : State} {addr : Addressing} {frames : List Frame} {results : List Result}
    {applied : Option State} (hplace : addr = .unit → s.link.own.length < 4)
    (hrun : s.runBatch frames = (results, applied)) (tag : BitVec 8) :
    s.closeBatch tag addr frames =
      if 250 < (payloadOf results).length then s.countRefused.replyTo addr tag (loneResult .replyTooLong)
      else (applied.getD s.countRefused).replyTo addr tag results := by
  have hopen : ¬ (addr == .unit && !s.replyPlace) = true := by
    cases addr with
    | broadcast => nofun
    | unit => simp [(replyPlace_iff s).mpr (hplace rfl)]
  unfold State.closeBatch
  rw [if_neg hopen, hrun]
  cases applied <;> rfl

/-- A reply to a batch of this unit changes the own-reply queue, the upstream transmitter and the mark alone. -/
theorem State.replyTo_unit_frame (s : State) (tag : BitVec 8) (results : List Result) :
    s.replyTo .unit tag results =
      { s with link := { s.link with own := (s.replyTo .unit tag results).link.own
                                     upTx := (s.replyTo .unit tag results).link.upTx
                                     lastServed := (s.replyTo .unit tag results).link.lastServed } } := by
  change s.reply tag results = { s with link := { s.link with own := (s.reply tag results).link.own
                                                              upTx := (s.reply tag results).link.upTx
                                                              lastServed := (s.reply tag results).link.lastServed } }
  rw [State.reply_frame]

/-- Settles O30: the closing of a batch, and then each of the operations it is made of. -/
theorem closedBatchIsAppliedWholeOrNotAtAll : Obligations.ClosedBatchIsAppliedWholeOrNotAtAll := by
  refine ⟨?close, ?run, ?takeAll, ?take, RawRequest.decode_iff, ?settle, ?answer, ?reply, fun _ => rfl, fun _ _ _ => rfl⟩
  case close =>
    intro s tag addr frames results applied hplace hrun
    have hclose := State.closeBatch_of_run hplace hrun tag
    refine ⟨fun hlong => hclose.trans (if_pos hlong), fun hshort hnone => ?_, fun s' hshort hsome => ?_⟩
    · subst hnone
      exact ⟨hclose.trans (if_neg (Nat.not_lt.mpr hshort)), State.runBatch_refused hrun⟩
    · subst hsome
      exact ⟨hclose.trans (if_neg (Nat.not_lt.mpr hshort)), State.runBatch_taken_length hrun⟩
  case run =>
    rintro s frames reqs outcome rfl rfl
    refine ⟨fun i st hrefused => ?_, fun sts w htaken => ?_⟩
    · rw [State.runBatch_of_refused hrefused]
      exact ⟨rfl, length_refusedResults i st _, fun k hk => getElem?_refusedResults i st _ hk⟩
    · rw [State.runBatch_of_taken htaken]
      exact ⟨rfl, rfl, Work.takeAll_length htaken⟩
  case takeAll =>
    exact fun multi alone w => ⟨rfl, fun r rs => ⟨fun st h => Work.takeAll_cons_of_refused h,
      fun st w' h => ⟨fun i e hrest => Work.takeAll_cons_of_rest_refused h hrest,
        fun sts w'' hrest => Work.takeAll_cons_of_taken h hrest⟩⟩⟩
  case take =>
    exact fun multi alone w r => ⟨Work.take_of_undecoded, fun k b h => ⟨Work.take_of_readInBatch h,
      Work.take_of_resetNotAlone h, Work.take_of_placed h, fun st w' hread => Work.request_read k b w w' st hread⟩⟩
  case settle => exact fun w => ⟨rfl, w.settle_record⟩
  case answer => exact fun s => ⟨rfl, fun r rs st sts k b h => State.answerAll_cons h rs st sts s⟩
  case reply =>
    exact fun s tag results => ⟨rfl, s.joinOwn_replied tag (payloadOf results), s.replyTo_unit_frame tag results⟩

end Sys2Proof.Machine

/-! # Reads and resets (chapter 08): the lengths of the bodies read, the counters cleared, and the scopes of Reset Unit -/

namespace Sys2Proof.Machine

/-! ## The lengths of bodies (R173, R175, R176) -/

theorem length_bytes16 (x : Half) : (bytes16 x).length = 2 := rfl

theorem length_bytes32 (x : BitVec 32) : (bytes32 x).length = 4 := rfl

/-- Fields of one length make up a body of a multiple of it. -/
theorem length_flatMap_of_eq {α β : Type} {l : List α} {f : α → List β} {n : Nat} (h : ∀ x ∈ l, (f x).length = n) :
    (l.flatMap f).length = n * l.length := by
  rw [List.length_flatMap, List.map_congr_left h, List.map_const', List.sum_replicate_nat, Nat.mul_comm]

theorem RouteEntry.length_bytes (e : RouteEntry) : e.bytes.length = 16 := rfl

theorem Runtime.length_bytes (r : Runtime) : r.bytes.length = 9 := rfl

theorem PortConfig.length_bytes (p : PortId) (c : PortConfig) : (c.bytes p).length = 17 := rfl

theorem checkReadRoutes_ok {b : List Byte} (h : checkReadRoutes b = .ok .done) :
    (b.getD 0 0).toNat + (b.getD 1 0).toNat ≤ 96 := by
  unfold checkReadRoutes at h
  dsimp only at h
  split_ifs at h with hcount hfirst
  omega

theorem RouteTable.length_readRoutes (t : RouteTable) {first count : Nat} (h : first + count ≤ 96) :
    (t.readRoutes first count).length = 25 * count := by
  have hentry : ∀ j ∈ List.range count, (if h : first + j < 96 then
      t.entries[first + j].bytes ++ t.records[first + j].bytes else []).length = 25 := by
    intro j hj
    have hin : first + j < 96 := by
      have := List.mem_range.mp hj
      omega
    rw [dif_pos hin, List.length_append, RouteEntry.length_bytes, Runtime.length_bytes]
  unfold RouteTable.readRoutes
  rw [length_flatMap_of_eq hentry, List.length_range]

theorem State.length_readPort (s : State) (p : PortId) : (s.readPort p).length = 34 := by
  unfold State.readPort
  dsimp only
  generalize s.ports[p].lastFrame = last
  cases last <;> rfl

theorem State.length_readSource (s : State) : s.readSource.length = 17 := rfl

theorem Record.length_bytes (r : Record) : r.bytes.length = 11 + 2 * r.values.length := by
  simp only [Record.bytes, List.length_append, length_flatMap_bytes16, length_bytes16, length_bytes32,
    List.length_singleton]

/-- The counters of a group: five of each lane, eight of the part, nine of a port (R160). -/
theorem State.length_groupCounters (s : State) (g : Group) :
    (s.groupCounters g).length = match g with
      | .link => 40
      | .part => 8
      | .port _ => 9 := by
  cases g with
  | link =>
    have hlane : ∀ r ∈ s.link.lanes.toList, r.counters.list.length = 5 := fun _ _ => rfl
    simp only [State.groupCounters, length_flatMap_of_eq hlane, Vector.length_toList]
  | part => rfl
  | port p => rfl

/-! ## Read Counters (R160, R178) -/

theorem decodeBool_of_le {b : Byte} (h : b.toNat ≤ 1) : decodeBool b = some (decide (b.toNat = 1)) := by
  unfold decodeBool
  obtain h0 | h1 : b.toNat = 0 ∨ b.toNat = 1 := by omega
  · simp [h0]
  · simp [h1]

theorem decodeBool_of_gt {b : Byte} (h : 1 < b.toNat) : decodeBool b = none := by
  unfold decodeBool
  split
  · omega
  · omega
  · rfl

theorem checkCounters_of_badValue {b : List Byte} (h : 2 < (b.getD 0 0).toNat ∨ 1 < (b.getD 2 0).toNat) :
    checkCounters b = .error .badValue := by
  unfold checkCounters
  by_cases hgroup : 2 < (b.getD 0 0).toNat
  · exact if_pos hgroup
  · rw [if_neg hgroup, decodeBool_of_gt (h.resolve_left hgroup)]

/-- With a group and a clear choice that are some, the group says what more is tested. -/
theorem checkCounters_of_named {b : List Byte} (hgroup : (b.getD 0 0).toNat ≤ 2) (hclear : (b.getD 2 0).toNat ≤ 1) :
    checkCounters b =
      if (b.getD 0 0).toNat = 0 then .ok (.link, decide ((b.getD 2 0).toNat = 1))
      else if (b.getD 0 0).toNat = 1 then .ok (.part, decide ((b.getD 2 0).toNat = 1))
      else if h : (b.getD 1 0).toNat < 6 then .ok (.port ⟨_, h⟩, decide ((b.getD 2 0).toNat = 1))
      else .error .badIndex := by
  unfold checkCounters
  rw [if_neg (Nat.not_lt.mpr hgroup), decodeBool_of_le hclear]

section

variable {s : State} {b : List Byte} {g : Group} {clear : Bool}

theorem State.answer_counters (h : checkCounters b = .ok (g, clear)) :
    s.answer .readCounters b = ((s.groupCounters g).flatMap bytes16, if clear then s.clearGroup g else s) := by
  simp only [State.answer, h]

theorem State.length_answer_counters (h : checkCounters b = .ok (g, clear)) :
    (s.answer .readCounters b).1.length = 2 * (s.groupCounters g).length := by
  rw [State.answer_counters h, length_flatMap_bytes16]

end

theorem State.lane_clearLaneCounters {s t : State} (h : t.link.lanes = s.link.clearLaneCounters.lanes) (l : Lane) :
    t.lane l = { s.lane l with counters := {} } := by
  unfold State.lane
  rw [h]
  exact Link.clearLaneCounters_lane s.link (laneIndex l)

/-- Settles O31. -/
theorem readsLeaveTheStateAndKeepTheirLengths : Obligations.ReadsLeaveTheStateAndKeepTheirLengths := by
  intro s
  refine ⟨?reads, ?clears, ?keeps, ?refused, ?counters, ?checked, ⟨rfl, State.lane_clearLaneCounters rfl⟩, rfl, ?port,
    fun b h => s.routes.length_readRoutes (checkReadRoutes_ok h), ?curve, ?readPort, fun _ => s.length_readSource,
    ?history, ?conditions, ?link, ?part, ?ports⟩
  case reads =>
    intro k b hread hcounters
    cases k with
    | readCounters => exact absurd rfl hcounters
    | _ => rfl
  case clears =>
    intro b g h
    rw [State.answer_counters h, if_pos rfl]
  case keeps =>
    intro b g h
    rw [State.answer_counters h, if_neg Bool.false_ne_true]
  case refused =>
    intro b st h
    simp only [State.answer, h]
  case counters =>
    intro b g clear h
    rw [State.answer_counters h]
    rfl
  case checked =>
    refine fun b => ⟨checkCounters_of_badValue, fun hclear => ⟨fun hlink => ?_, fun hpart => ?_,
      fun hport => ⟨fun hindex => ?_, fun p hindex => ?_⟩⟩⟩
    · rw [checkCounters_of_named (by omega) hclear, if_pos hlink]
    · rw [checkCounters_of_named (by omega) hclear, if_neg (by omega), if_pos hpart]
    · rw [checkCounters_of_named (by omega) hclear, if_neg (by omega), if_neg (by omega), dif_neg (by omega)]
    · have hlt : (b.getD 1 0).toNat < 6 := hindex ▸ p.isLt
      have hp : (⟨(b.getD 1 0).toNat, hlt⟩ : PortId) = p := Fin.ext hindex
      rw [checkCounters_of_named (by omega) hclear, if_neg (by omega), if_neg (by omega), dif_pos hlt, hp]
  case port => exact fun p => ⟨rfl, fun q hq => State.ports_updPort_other s _ hq, State.ports_updPort_same s p _⟩
  case curve =>
    intro b h
    simp only [State.answer, dif_pos h]
    rw [length_flatMap_bytes16, Vector.length_toList]
  case readPort =>
    intro b h
    simp only [State.answer, dif_pos h]
    exact s.length_readPort _
  case history =>
    intro b r h
    simp only [State.answer, h]
    exact r.length_bytes
  case conditions => simp [State.answer]
  case link => exact fun b clear h => (State.length_answer_counters h).trans (congrArg (2 * ·) (s.length_groupCounters _))
  case part => exact fun b clear h => (State.length_answer_counters h).trans (congrArg (2 * ·) (s.length_groupCounters _))
  case ports => exact fun b p clear h => (State.length_answer_counters h).trans (congrArg (2 * ·) (s.length_groupCounters _))

/-! ## Reset Unit (R161) -/

theorem State.resetFull_port (s : State) (p : PortId) :
    s.resetFull.ports[p] = { Port.powerOn with tx := s.ports[p].tx.cut } := by
  simp [State.resetFull, Port.resetFull]

theorem State.resetRuntime_port (s : State) (p : PortId) :
    s.resetRuntime.ports[p] =
      if s.ports[p].cfg.enable then
        { s.ports[p] with state := .wait, lag := 0, consumed := none, mark := none, tx := s.ports[p].tx.cut,
                          lastFrame := none }
      else { s.ports[p] with consumed := none } := by
  simp only [State.resetRuntime, Fin.getElem_fin, Vector.getElem_map]
  rfl

theorem State.resetCounters_port (s : State) (p : PortId) :
    s.resetCounters.ports[p] = { s.ports[p] with counters := {}, conditions := {} } := by
  simp [State.resetCounters, Port.resetCounters]

theorem State.resetRuntime_record (s : State) (i : EntryId) :
    s.resetRuntime.routes.records[i] = { residue := 0, last := s.routes.entries[i].neutral, carry := none } := by
  simp [State.resetRuntime, RouteTable.resetRuntime, Runtime.resetTo]

theorem Work.resetUnit_singleton (w : Work) (b : Byte) :
    w.resetUnit [b] =
      if b = 0 then .ok (.done, { w with state := w.state.resetFull })
      else if b = 1 then .ok (.done, { w with state := w.state.resetRuntime })
      else if b = 2 then .ok (.done, { w with state := w.state.resetCounters })
      else .error .badValue := by
  have h0 : b = 0 ↔ b.toNat = 0 := BitVec.toNat_inj.symm
  have h1 : b = 1 ↔ b.toNat = 1 := BitVec.toNat_inj.symm
  have h2 : b = 2 ↔ b.toNat = 2 := BitVec.toNat_inj.symm
  unfold Work.resetUnit
  simp only [h0, h1, h2, List.getD_cons_zero]
  split
  · next h => simp [h]
  · next h => simp [h]
  · next h => simp [h]
  · next hne0 hne1 hne2 => rw [if_neg hne0, if_neg hne1, if_neg hne2]

/-- Settles O34. -/
theorem resetUnitScopes : Obligations.ResetUnitScopes := by
  intro s
  exact ⟨⟨rfl, State.lane_clearLaneCounters rfl, rfl, rfl, rfl, rfl, rfl, rfl, s.resetFull_port⟩,
    ⟨rfl, rfl, s.resetRuntime_record, s.resetRuntime_port⟩,
    ⟨rfl, State.lane_clearLaneCounters rfl, s.resetCounters_port⟩, Work.resetUnit_singleton⟩

end Sys2Proof.Machine

/-! # Configure Port (chapters 04 and 08): the values decoded, the checks in order, and the records reset -/

namespace Sys2Proof.Machine

/-! ## Named values (R153, R171, R176) -/

section

variable {b : Byte}

theorem decodeBool_eq_none_iff : decodeBool b = none ↔ 1 < b.toNat := by
  constructor
  · intro h
    by_contra hle
    rw [decodeBool_of_le (Nat.le_of_not_lt hle)] at h
    cases h
  · exact decodeBool_of_gt

theorem toNat_of_decodeBool {x : Bool} (h : decodeBool b = some x) : x = true ↔ b.toNat = 1 := by
  have hle : b.toNat ≤ 1 := by
    by_contra hgt
    rw [decodeBool_of_gt (Nat.lt_of_not_le hgt)] at h
    cases h
  rw [decodeBool_of_le hle] at h
  cases h
  exact decide_eq_true_iff

theorem decodeRole_eq_none_iff : decodeRole b = none ↔ 2 < b.toNat := by
  unfold decodeRole
  split
  · simp [*]
  · simp [*]
  · simp [*]
  · next h0 h1 h2 =>
    have hne : b.toNat ≠ 0 ∧ b.toNat ≠ 1 ∧ b.toNat ≠ 2 := ⟨h0, h1, h2⟩
    simp only [true_iff]
    omega

theorem decodePacing_eq_none_iff : decodePacing b = none ↔ 2 < b.toNat := by
  unfold decodePacing
  split
  · simp [*]
  · simp [*]
  · simp [*]
  · next h0 h1 h2 =>
    have hne : b.toNat ≠ 0 ∧ b.toNat ≠ 1 ∧ b.toNat ≠ 2 := ⟨h0, h1, h2⟩
    simp only [true_iff]
    omega

theorem decodeLagMode_eq_none_iff : decodeLagMode b = none ↔ 1 < b.toNat := by
  unfold decodeLagMode
  split
  · simp [*]
  · simp [*]
  · next h0 h1 =>
    have hne : b.toNat ≠ 0 ∧ b.toNat ≠ 1 := ⟨h0, h1⟩
    simp only [true_iff]
    omega

theorem code_of_decodeRole {r : Role} (h : decodeRole b = some r) : r.code = b := by
  unfold decodeRole at h
  split at h <;> cases h <;> exact BitVec.eq_of_toNat_eq (Eq.symm ‹_›)

theorem code_of_decodePacing {m : Pacing} (h : decodePacing b = some m) : m.code = b := by
  unfold decodePacing at h
  split at h <;> cases h <;> exact BitVec.eq_of_toNat_eq (Eq.symm ‹_›)

theorem code_of_decodeLagMode {m : LagMode} (h : decodeLagMode b = some m) : m.code = b := by
  unfold decodeLagMode at h
  split at h <;> cases h <;> exact BitVec.eq_of_toNat_eq (Eq.symm ‹_›)

end

/-! ## The configuration decoded (R82, R91, R153, R176) -/

theorem decodeConfig_eq_none_iff (b : List Byte) :
    decodeConfig b = none ↔
      1 < (b.getD 1 0).toNat ∨ 2 < (b.getD 2 0).toNat ∨ 2 < (b.getD 5 0).toNat ∨ 1 < (b.getD 8 0).toNat
      ∨ 1 < (b.getD 10 0).toNat ∨ 7 < (b.getD 6 0).toNat := by
  rw [← decodeBool_eq_none_iff, ← decodeRole_eq_none_iff, ← decodePacing_eq_none_iff,
    ← decodeBool_eq_none_iff (b := b.getD 8 0), ← decodeLagMode_eq_none_iff]
  unfold decodeConfig
  cases decodeBool (b.getD 1 0) with
  | none => simp
  | some enable =>
    cases decodeRole (b.getD 2 0) with
    | none => simp
    | some role =>
      cases decodePacing (b.getD 5 0) with
      | none => simp
      | some pacing =>
        cases decodeBool (b.getD 8 0) with
        | none => simp
        | some mirror =>
          cases decodeLagMode (b.getD 10 0) with
          | none => simp
          | some lagMode => simp

theorem extractLsb'_15_eq_zero_iff (x : Half) : x.extractLsb' 0 15 = 0 ↔ x.toNat % 32768 = 0 := by
  rw [← toNat_extractLsb'_15]
  exact BitVec.toNat_eq

theorem PortConfig.DecodedFrom.k_toNat {b : List Byte} {c : PortConfig} {adj : Bool} (h : c.DecodedFrom b adj) :
    c.k.toNat = (b.getD 6 0).toNat := by
  have hsmall := h.small
  rw [h.k, BitVec.toNat_setWidth]
  omega

theorem PortConfig.DecodedFrom.adjusted_iff {b : List Byte} {c : PortConfig} {adj : Bool} (h : c.DecodedFrom b adj) :
    adj = true ↔ c.n ≠ b.getD 7 0 ∨ c.scale ≠ b.getD 9 0 ∨ c.manualLag ≠ b.getD 11 0
      ∨ (be16 b 15).toNat % 32768 = 0 := by
  rw [h.adjusted, ← extractLsb'_15_eq_zero_iff]
  simp only [Bool.or_eq_true, bne_iff_ne, beq_iff_eq, or_assoc]

/-! ## The checks in order (R35, R153) -/

theorem State.checkPort_of_badIndex (s : State) {b : List Byte} (h : 5 < (b.getD 0 0).toNat) :
    s.checkPort b = .error .badIndex := dif_neg (by omega)

theorem State.checkPort_of_undecoded (s : State) {b : List Byte} {p : PortId} (hp : (b.getD 0 0).toNat = p.val)
    (h : decodeConfig b = none) : s.checkPort b = .error .badValue := by
  have hlt : (b.getD 0 0).toNat < 6 := hp ▸ p.isLt
  unfold State.checkPort
  rw [dif_pos hlt, h]

theorem State.checkPort_of_decoded (s : State) {b : List Byte} {p : PortId} (hp : (b.getD 0 0).toNat = p.val)
    {c : PortConfig} {adj : Bool} (h : decodeConfig b = some (c, adj)) :
    s.checkPort b =
      if 24 < c.count.toNat then .error .windowTooLong
      else if 95 < c.first.toNat then .error .badIndex
      else if 96 < c.first.toNat + c.count.toNat then .error .badIndex
      else if s.overlap p c then .error .windowOverlap
      else .ok (p, c, adj) := by
  have hlt : (b.getD 0 0).toNat < 6 := hp ▸ p.isLt
  obtain rfl : (⟨(b.getD 0 0).toNat, hlt⟩ : PortId) = p := Fin.ext hp
  unfold State.checkPort
  rw [dif_pos hlt, h]

theorem State.overlap_iff (s : State) (p : PortId) (c : PortConfig) :
    s.overlap p c = true ↔
      c.enable = true ∧ ∃ q : PortId, q ≠ p ∧ s.ports[q].cfg.enable = true
        ∧ ∃ i, i ∈ c.window ∧ i ∈ s.ports[q].cfg.window := by
  rw [← Bool.not_eq_false, State.overlap_eq_false_iff]
  push Not
  rfl

/-! ## The request (R31, R36, R153) -/

theorem PortConfig.mem_entering_iff (old new : PortConfig) (i : EntryId) :
    i ∈ old.entering new ↔ new.enable = true ∧ i ∈ new.window ∧ ¬ (old.enable = true ∧ i ∈ old.window) := by
  unfold PortConfig.entering
  by_cases hnew : new.enable = true
  · by_cases hold : old.enable = true
    · simp [hnew, hold]
    · simp [hnew, hold]
  · simp [hnew]

theorem Work.request_configurePort_refused {w : Work} {b : List Byte} {st : Status} (h : w.state.checkPort b = .error st) :
    w.request .configurePort b = .error st := by
  simp only [Work.request, Work.configurePort, h]

theorem Work.request_configurePort_taken {w : Work} {b : List Byte} {p : PortId} {c : PortConfig} {adj : Bool}
    (h : w.state.checkPort b = .ok (p, c, adj)) :
    w.request .configurePort b =
      .ok (if adj then .adjusted else .done,
           { state := w.state.updPort p (Port.configure w.state.now c)
             resets := w.state.ports[p].cfg.entering c ++ w.resets }) := by
  simp only [Work.request, Work.configurePort, h] <;> rfl

/-- Settles O32. -/
theorem configurePortEnablesAndDisables : Obligations.ConfigurePortEnablesAndDisables := by
  refine ⟨?configure, fun b => ⟨decodeConfig_eq_none_iff b, ?decode⟩, fun s b => ⟨s.checkPort_of_badIndex, ?check⟩,
    fun w b => ⟨fun st => Work.request_configurePort_refused, fun p c adj => Work.request_configurePort_taken⟩,
    PortConfig.mem_entering_iff, PortConfig.mem_window_iff⟩
  case configure =>
    exact fun now c p => ⟨Port.configure_of_turned_on, Port.configure_of_turned_off, Port.configure_of_staying_off,
      Port.configure_of_staying_on⟩
  case decode =>
    intro c adj h
    have hd := decodeConfig_eq_some_iff.mp h
    refine ⟨toNat_of_decodeBool hd.enable, code_of_decodeRole hd.role, hd.first, hd.count, code_of_decodePacing hd.pacing,
      hd.k_toNat, ?_, toNat_of_decodeBool hd.mirror, ?_, code_of_decodeLagMode hd.lagMode, ?_, hd.trim, hd.holdTime, ?_,
      hd.adjusted_iff⟩
    · rw [hd.n, adjustN_toNat]
    · rw [hd.scale, adjustScale_toNat]
    · rw [hd.manualLag, adjustLag_toNat]
    · rw [hd.fadeStep, adjustFade_toNat]
  case check =>
    refine fun p hp => ⟨s.checkPort_of_undecoded hp, fun c adj h => ⟨fun hlong => ?_, fun hcount hout => ?_,
      fun hcount hfirst hend => ⟨fun hoverlap => ?_, fun hfree => ?_⟩⟩⟩
    · rw [s.checkPort_of_decoded hp h, if_pos hlong]
    · rw [s.checkPort_of_decoded hp h, if_neg (by omega)]
      obtain hfirst | hend := hout
      · rw [if_pos hfirst]
      · rw [if_pos hend, ite_self]
    · rw [s.checkPort_of_decoded hp h, if_neg (by omega), if_neg (by omega), if_neg (by omega),
        if_pos ((s.overlap_iff p c).mpr hoverlap)]
    · rw [s.checkPort_of_decoded hp h, if_neg (by omega), if_neg (by omega), if_neg (by omega),
        if_neg (mt (s.overlap_iff p c).mp hfree)]

end Sys2Proof.Machine

/-! # Route entries, curves and port configurations as bytes (chapters 02, 08 and 10) -/

namespace Sys2Proof.Machine

/-! ## Fields as bytes (R171) -/

theorem extractLsb'_append_high (x y : Byte) : (x ++ y).extractLsb' 8 8 = x := by
  ext k hk
  rw [BitVec.getElem_extractLsb', BitVec.getLsbD_append]
  simp [hk]

theorem extractLsb'_append_low (x y : Byte) : (x ++ y).extractLsb' 0 8 = y := by
  ext k hk
  rw [BitVec.getElem_extractLsb', BitVec.getLsbD_append]
  simp [hk]

theorem append_extractLsb' (x : BitVec (8 + 8)) : x.extractLsb' 8 8 ++ x.extractLsb' 0 8 = x := by
  ext k hk
  rw [BitVec.getElem_append]
  by_cases hlow : k < 8
  · simp [hlow, BitVec.getLsbD_eq_getElem hk]
  · have hadd : 8 + (k - 8) = k := by omega
    simp [hlow, hadd, BitVec.getLsbD_eq_getElem hk]

theorem bytes_of_half (x : Half) : x.extractLsb' 8 8 ++ x.extractLsb' 0 8 = x := append_extractLsb' x

theorem be16_high (b : List Byte) (i : Nat) : (be16 b i).extractLsb' 8 8 = b.getD i 0 := extractLsb'_append_high _ _

theorem be16_low (b : List Byte) (i : Nat) : (be16 b i).extractLsb' 0 8 = b.getD (i + 1) 0 := extractLsb'_append_low _ _

theorem byteOfBits_two (b : Byte) : byteOfBits [b.getLsbD 0, b.getLsbD 1] = b &&& 3 := by
  refine BitVec.eq_of_getLsbD_eq fun k hk => ?_
  rw [getLsbD_byteOfBits _ hk, BitVec.getLsbD_and]
  interval_cases k <;> simp

theorem toNat_and_15 (b : Byte) : (b &&& 15).toNat = b.toNat % 16 := by
  rw [BitVec.toNat_and]
  exact Nat.and_two_pow_sub_one_eq_mod b.toNat 4

/-! ## The named values of an entry (R175) -/

/-- The source byte of an entry. -/
def EntrySource.byte : EntrySource → Byte
  | .slot i => BitVec.ofNat 8 i.val
  | .constant => 0xFF

/-- The curve byte of an entry. -/
def curveByte : Option (Fin 8) → Byte
  | some c => BitVec.ofNat 8 c.val
  | none => 0x0F

theorem toNat_ofNat_byte {n : Nat} (h : n < 256) : (BitVec.ofNat 8 n).toNat = n := by
  rw [BitVec.toNat_ofNat, Nat.mod_eq_of_lt h]

theorem decodeSource_byte (x : EntrySource) : decodeSource x.byte = some x := by
  cases x with
  | slot i =>
    have hbyte : (EntrySource.slot i).byte.toNat = i.val := toNat_ofNat_byte (by omega)
    unfold decodeSource
    rw [dif_pos (by omega)]
    exact congrArg (fun i => some (EntrySource.slot i)) (Fin.ext hbyte)
  | constant => rfl

theorem decodeCurve_byte (x : Option (Fin 8)) : decodeCurve (curveByte x) = some x := by
  revert x
  decide

theorem decodeKind_code (k : Kind) : decodeKind k.code = some k := by
  cases k <;> rfl

theorem decodeAveraging_frames (w : Averaging) : decodeAveraging (BitVec.ofNat 8 w.frames) = some w := by
  cases w <;> rfl

section

variable {b : Byte}

theorem decodeSource_eq_none_iff : decodeSource b = none ↔ 47 < b.toNat ∧ b.toNat ≠ 255 := by
  have hconstant : b = 0xFF ↔ b.toNat = 255 := BitVec.toNat_inj.symm
  unfold decodeSource
  simp only [hconstant]
  split_ifs <;> simp only [false_iff, true_iff] <;> omega

theorem byte_of_decodeSource {x : EntrySource} (h : decodeSource b = some x) : x.byte = b := by
  unfold decodeSource at h
  split_ifs at h with hslot hconstant
  · cases h
    exact BitVec.eq_of_toNat_eq (toNat_ofNat_byte b.isLt)
  · cases h
    exact hconstant.symm

theorem decodeKind_eq_none_iff : decodeKind b = none ↔ 2 < b.toNat := by
  unfold decodeKind
  split
  · simp [*]
  · simp [*]
  · simp [*]
  · next h0 h1 h2 =>
    have hne : b.toNat ≠ 0 ∧ b.toNat ≠ 1 ∧ b.toNat ≠ 2 := ⟨h0, h1, h2⟩
    simp only [true_iff]
    omega

theorem code_of_decodeKind {k : Kind} (h : decodeKind b = some k) : k.code = b := by
  unfold decodeKind at h
  split at h <;> cases h <;> exact BitVec.eq_of_toNat_eq (Eq.symm ‹_›)

theorem decodeAveraging_eq_none_iff : decodeAveraging b = none ↔ b.toNat ∉ [1, 2, 4, 8] := by
  unfold decodeAveraging
  split
  · simp [*]
  · simp [*]
  · simp [*]
  · simp [*]
  · next h1 h2 h4 h8 =>
    have hne : b.toNat ≠ 1 ∧ b.toNat ≠ 2 ∧ b.toNat ≠ 4 ∧ b.toNat ≠ 8 := ⟨h1, h2, h4, h8⟩
    simpa using hne

theorem frames_of_decodeAveraging {w : Averaging} (h : decodeAveraging b = some w) : BitVec.ofNat 8 w.frames = b := by
  unfold decodeAveraging at h
  split at h <;> cases h <;> exact BitVec.eq_of_toNat_eq (Eq.symm ‹_›)

theorem toNat_extractLsb'_4 (b : Byte) : (b.extractLsb' 0 4).toNat = b.toNat % 16 := by
  rw [BitVec.extractLsb'_toNat, Nat.shiftRight_zero]

theorem decodeCurve_eq_none_iff : decodeCurve b = none ↔ 8 ≤ b.toNat % 16 ∧ b.toNat % 16 ≤ 14 := by
  unfold decodeCurve
  simp only [toNat_extractLsb'_4]
  split_ifs <;> simp only [false_iff, true_iff] <;> omega

theorem byte_of_decodeCurve {c : Option (Fin 8)} (h : decodeCurve b = some c) : curveByte c = b &&& 15 := by
  have hlow := toNat_and_15 b
  unfold decodeCurve at h
  simp only [toNat_extractLsb'_4] at h
  split_ifs at h with hcurve hnone
  · cases h
    refine BitVec.eq_of_toNat_eq (Eq.trans ?_ hlow.symm)
    exact toNat_ofNat_byte (by omega)
  · cases h
    exact BitVec.eq_of_toNat_eq (hnone.symm.trans hlow.symm)

end

/-! ## One entry (R29, R175) -/

theorem RouteEntry.bytes_eq (e : RouteEntry) :
    e.bytes =
      [e.source.byte, e.constant.extractLsb' 8 8, e.constant.extractLsb' 0 8, e.kind.code, BitVec.ofNat 8 e.window.frames,
       byteOfBits [e.invert, e.mirrorSensitive], e.gain, curveByte e.curve, e.lo.extractLsb' 8 8, e.lo.extractLsb' 0 8,
       e.hi.extractLsb' 8 8, e.hi.extractLsb' 0 8, e.neutral.extractLsb' 8 8, e.neutral.extractLsb' 0 8,
       (e.slew.setWidth 16).extractLsb' 8 8, (e.slew.setWidth 16).extractLsb' 0 8] := rfl

/-- The entry that 16 bytes carry, with its named values decoded. -/
def entryOf (b : List Byte) (source : EntrySource) (kind : Kind) (w : Averaging) (curve : Option (Fin 8)) : RouteEntry :=
  { source := source, constant := be16 b 1, kind := kind, window := storedWindow kind w,
    invert := (b.getD 5 0).getLsbD 0, mirrorSensitive := (b.getD 5 0).getLsbD 1, gain := b.getD 6 0, curve := curve,
    lo := be16 b 8, hi := be16 b 10, neutral := be16 b 12, slew := (be16 b 14).setWidth 15 }

section

variable {b : List Byte} {source : EntrySource} {kind : Kind} {w : Averaging} {curve : Option (Fin 8)}

theorem checkEntry_of_decoded (hsource : decodeSource (b.getD 0 0) = some source)
    (hkind : decodeKind (b.getD 3 0) = some kind) (hw : decodeAveraging (b.getD 4 0) = some w)
    (hcurve : decodeCurve (b.getD 7 0) = some curve) :
    checkEntry b =
      if (be16 b 14).msb then .error .badValue
      else if (be16 b 8).toInt ≤ (be16 b 12).toInt ∧ (be16 b 12).toInt ≤ (be16 b 10).toInt then
        .ok (entryOf b source kind w curve, storedWindow kind w != w)
      else .error .badLimits := by
  simp only [checkEntry, hsource, hkind, hw, hcurve, cueLe]
  by_cases hslew : (be16 b 14).msb = true
  · rw [if_pos hslew, if_pos hslew]
  · rw [if_neg hslew, if_neg hslew]
    by_cases hlimits : (be16 b 8).toInt ≤ (be16 b 12).toInt ∧ (be16 b 12).toInt ≤ (be16 b 10).toInt
    · have hordered : (be16 b 8).toInt ≤ (be16 b 10).toInt := hlimits.1.trans hlimits.2
      rw [if_pos hlimits]
      simp [hlimits.1, hlimits.2, hordered, entryOf]
    · have hcut : ¬ (be16 b 8).toInt ≤ (be16 b 12).toInt ∨ ¬ (be16 b 12).toInt ≤ (be16 b 10).toInt := not_and_or.mp hlimits
      rw [if_neg hlimits]
      obtain h | h := hcut <;> simp [h]

theorem checkEntry_of_undecoded (h : decodeSource (b.getD 0 0) = none ∨ decodeKind (b.getD 3 0) = none
    ∨ decodeAveraging (b.getD 4 0) = none ∨ decodeCurve (b.getD 7 0) = none) : checkEntry b = .error .badValue := by
  unfold checkEntry
  split
  · next hsource hkind hw hcurve =>
    rw [hsource, hkind, hw, hcurve] at h
    simp at h
  · rfl

theorem storedWindow_adjusted (hkind : decodeKind (b.getD 3 0) = some kind) (hw : decodeAveraging (b.getD 4 0) = some w) :
    (storedWindow kind w != w) = decide ((b.getD 3 0).toNat ≠ 0 ∧ (b.getD 4 0).toNat ≠ 1) := by
  rw [← code_of_decodeKind hkind, ← frames_of_decodeAveraging hw]
  cases kind <;> cases w <;> rfl

theorem storedWindow_frames (hkind : decodeKind (b.getD 3 0) = some kind) (hw : decodeAveraging (b.getD 4 0) = some w) :
    BitVec.ofNat 8 (storedWindow kind w).frames = if (b.getD 3 0).toNat = 0 then b.getD 4 0 else 1 := by
  rw [← code_of_decodeKind hkind, ← frames_of_decodeAveraging hw]
  cases kind <;> rfl

theorem setWidth_16_15 {x : Half} (h : x.msb = false) : (x.setWidth 15).setWidth 16 = x := by
  have hlt : x.toNat < 32768 := by
    simpa [BitVec.msb_eq_decide] using h
  refine BitVec.eq_of_toNat_eq ?_
  simp only [BitVec.toNat_setWidth]
  omega

/-- The entry decoded is sent as the bytes it came from, but for what the adjustment and the unused bits change. -/
theorem bytes_entryOf (hsource : decodeSource (b.getD 0 0) = some source)
    (hkind : decodeKind (b.getD 3 0) = some kind) (hw : decodeAveraging (b.getD 4 0) = some w)
    (hcurve : decodeCurve (b.getD 7 0) = some curve) (hslew : (be16 b 14).msb = false) :
    (entryOf b source kind w curve).bytes =
      [b.getD 0 0, b.getD 1 0, b.getD 2 0, b.getD 3 0, if (b.getD 3 0).toNat = 0 then b.getD 4 0 else 1,
       b.getD 5 0 &&& 3, b.getD 6 0, b.getD 7 0 &&& 15, b.getD 8 0, b.getD 9 0, b.getD 10 0, b.getD 11 0, b.getD 12 0,
       b.getD 13 0, b.getD 14 0, b.getD 15 0] := by
  rw [RouteEntry.bytes_eq]
  simp only [entryOf, byte_of_decodeSource hsource, code_of_decodeKind hkind, storedWindow_frames hkind hw,
    byteOfBits_two, byte_of_decodeCurve hcurve, setWidth_16_15 hslew, be16_high, be16_low]

end

theorem storedWindow_of_valid {e : RouteEntry} (h : e.Valid) : storedWindow e.kind e.window = e.window := by
  obtain ⟨-, -, hwindow⟩ := h
  cases hkind : e.kind with
  | level => rfl
  | delta | peak => exact (hwindow (by rw [hkind]; decide)).symm

/-- A valid entry is read back as it was sent. -/
theorem checkEntry_bytes {e : RouteEntry} (h : e.Valid) : checkEntry e.bytes = .ok (e, false) := by
  have hslew : be16 e.bytes 14 = e.slew.setWidth 16 := bytes_of_half _
  have hlo : be16 e.bytes 8 = e.lo := bytes_of_half _
  have hhi : be16 e.bytes 10 = e.hi := bytes_of_half _
  have hneutral : be16 e.bytes 12 = e.neutral := bytes_of_half _
  have hconstant : be16 e.bytes 1 = e.constant := bytes_of_half _
  have hinvert : (byteOfBits [e.invert, e.mirrorSensitive]).getLsbD 0 = e.invert := getLsbD_byteOfBits _ (by decide)
  have hmirror : (byteOfBits [e.invert, e.mirrorSensitive]).getLsbD 1 = e.mirrorSensitive :=
    getLsbD_byteOfBits _ (by decide)
  have hpositive : ¬ (e.slew.setWidth 16).msb = true := by
    have hlt := e.slew.isLt
    simp only [BitVec.msb_eq_decide, BitVec.toNat_setWidth, decide_eq_true_eq]
    omega
  have hwidth : (e.slew.setWidth 16).setWidth 15 = e.slew := by simp
  rw [checkEntry_of_decoded (b := e.bytes) (decodeSource_byte e.source) (decodeKind_code e.kind)
    (decodeAveraging_frames e.window) (decodeCurve_byte e.curve), hslew, if_neg hpositive, hlo, hhi, hneutral,
    if_pos ⟨h.1, h.2.1⟩]
  have hentry : entryOf e.bytes e.source e.kind e.window e.curve = e := by
    simp only [entryOf, hconstant, storedWindow_of_valid h, hlo, hhi, hneutral, hslew, hwidth]
    simp only [RouteEntry.bytes_eq, List.getD_cons_succ, List.getD_cons_zero, hinvert, hmirror]
  rw [hentry, storedWindow_of_valid h, bne_self_eq_false]

/-! ## A port configuration (R91, R153, R176) -/

theorem decodeBool_boolCode (x : Bool) : decodeBool (boolCode x) = some x := by
  cases x <;> rfl

theorem decodeRole_code (r : Role) : decodeRole r.code = some r := by
  cases r <;> rfl

theorem decodePacing_code (m : Pacing) : decodePacing m.code = some m := by
  cases m <;> rfl

theorem decodeLagMode_code (m : LagMode) : decodeLagMode m.code = some m := by
  cases m <;> rfl

theorem adjustN_of_interval {c : PortConfig} (h : 16 ≤ c.interval) : adjustN c.k c.n = c.n := by
  have hleast : 16 / 2 ^ c.k.toNat - 1 ≤ c.n.toNat := by
    have hk : c.k.toNat < 8 := c.k.isLt
    unfold PortConfig.interval at h
    generalize c.k.toNat = k at *
    interval_cases k <;> omega
  exact BitVec.eq_of_toNat_eq ((adjustN_toNat c.k c.n).trans (by omega))

theorem adjustScale_of_range {x : BitVec 8} (hlo : 1 ≤ x.toNat) (hhi : x.toNat ≤ 16) : adjustScale x = x := by
  have hzero : x ≠ 0 := fun h => by
    rw [h] at hlo
    exact absurd hlo (by decide)
  unfold adjustScale
  rw [if_neg hzero, if_neg (by omega)]

theorem adjustLag_of_le {x : BitVec 8} (h : x.toNat ≤ 48) : adjustLag x = x := if_neg (Nat.not_lt.mpr h)

theorem extractLsb'_setWidth_15 (x : BitVec 15) : (x.setWidth 16).extractLsb' 0 15 = x := by
  refine BitVec.eq_of_toNat_eq ?_
  have hlt := x.isLt
  rw [toNat_extractLsb'_15, BitVec.toNat_setWidth]
  omega

/-- A valid configuration is read back as it was sent. -/
theorem decodeConfig_bytes (p : PortId) {c : PortConfig} (h : c.Valid) : decodeConfig (c.bytes p) = some (c, false) := by
  obtain ⟨hscaleLo, hscaleHi, hlag, hfade, -, -, -, hinterval, -⟩ := h
  have hn := adjustN_of_interval hinterval
  have hscale := adjustScale_of_range hscaleLo hscaleHi
  have hlag' := adjustLag_of_le hlag
  have htrim : be16 (c.bytes p) 12 = c.trim := bytes_of_half _
  have hstep : (be16 (c.bytes p) 15).extractLsb' 0 15 = c.fadeStep := by
    have hhalf : be16 (c.bytes p) 15 = c.fadeStep.setWidth 16 := bytes_of_half _
    rw [hhalf, extractLsb'_setWidth_15]
  have hk : (c.k.setWidth 8).toNat = c.k.toNat := by
    rw [BitVec.toNat_setWidth_of_le (by decide)]
  refine decodeConfig_eq_some_iff.mpr
    { enable := decodeBool_boolCode c.enable, role := decodeRole_code c.role, first := rfl, count := rfl
      pacing := decodePacing_code c.pacing, small := hk.trans_le (Nat.le_of_lt_succ c.k.isLt), k := ?_, n := hn.symm
      mirror := decodeBool_boolCode c.mirror, scale := hscale.symm, lagMode := decodeLagMode_code c.lagMode
      manualLag := hlag'.symm, trim := htrim.symm, holdTime := rfl, fadeStep := ?_, adjusted := ?_ }
  · have hwidth : (c.k.setWidth 8).setWidth 3 = c.k := by simp
    exact hwidth.symm
  · unfold adjustFade
    rw [hstep, if_neg hfade]
  · rw [hstep, beq_eq_false_iff_ne.mpr hfade]
    change false = (c.n != c.n || c.scale != c.scale || c.manualLag != c.manualLag || false)
    simp only [bne_self_eq_false, Bool.or_self]

end Sys2Proof.Machine

/-! # Load Routes and Load Curve (chapters 02 and 08) -/

namespace Sys2Proof.Machine

/-! ## The entries of a body, in order (R29) -/

theorem checkEntries_of_refused {n j : Nat} {b : List Byte} {st : Status} (hj : j < n)
    (hrefused : checkEntry (b.drop (16 * j)) = .error st)
    (hbefore : ∀ k, k < j → ∃ x, checkEntry (b.drop (16 * k)) = .ok x) : checkEntries n b = .error st := by
  induction n generalizing j b with
  | zero => exact absurd hj (Nat.not_lt_zero j)
  | succ n ih =>
    rw [checkEntries]
    cases j with
    | zero =>
      have hfirst : checkEntry b = .error st := hrefused
      rw [hfirst]
    | succ j =>
      have hdrop (k : Nat) : b.drop (16 * (k + 1)) = (b.drop 16).drop (16 * k) := by
        rw [List.drop_drop]
        congr 1
        omega
      obtain ⟨x, hfirst⟩ := hbefore 0 (Nat.succ_pos j)
      have hfirst' : checkEntry b = .ok x := hfirst
      rw [hdrop] at hrefused
      have hrest := ih (Nat.lt_of_succ_lt_succ hj) hrefused fun k hk => by
        rw [← hdrop]
        exact hbefore (k + 1) (Nat.succ_lt_succ hk)
      simp only [hfirst', hrest]

theorem checkEntries_of_taken {n : Nat} {b : List Byte} {es : Nat → RouteEntry × Bool}
    (h : ∀ j, j < n → checkEntry (b.drop (16 * j)) = .ok (es j)) :
    checkEntries n b = .ok ((List.range n).map fun j => (es j).1, (List.range n).any fun j => (es j).2) := by
  induction n generalizing b es with
  | zero => rfl
  | succ n ih =>
    have hfirst : checkEntry b = .ok (es 0) := h 0 (Nat.succ_pos n)
    have hrest := ih (b := b.drop 16) (es := fun j => es (j + 1)) fun j hj => by
      have hdrop : (b.drop 16).drop (16 * j) = b.drop (16 * (j + 1)) := by
        rw [List.drop_drop]
        congr 1
        omega
      rw [hdrop]
      exact h (j + 1) (Nat.succ_lt_succ hj)
    rw [checkEntries]
    simp only [hfirst, hrest, List.range_succ_eq_map, List.map_cons, List.map_map, List.any_cons, List.any_map]
    rfl

/-! ## The entries written (R31, R149) -/

/-- Source, constant or kind differ, which resets the record of an entry (R31). -/
def RouteEntry.Renews (old new : RouteEntry) : Prop :=
  new.source ≠ old.source ∨ new.constant ≠ old.constant ∨ new.kind ≠ old.kind

theorem RouteEntry.not_renews_self (e : RouteEntry) : ¬ e.Renews e := by
  simp [RouteEntry.Renews]

theorem Work.mem_loadEntry_resets (i : EntryId) (e : RouteEntry) (w : Work) (j : EntryId) :
    j ∈ (w.loadEntry i e).resets ↔ j ∈ w.resets ∨ j = i ∧ w.state.routes.entries[i].Renews e := by
  rw [Work.loadEntry_resets]
  simp only [RouteEntry.Renews, ne_comm]

/-- The entries written are those from the first index on, and the others stay. -/
theorem Work.loadEntries_entries (n : Nat) (es : List RouteEntry) (w : Work) (hend : n + es.length ≤ 96) (i : EntryId) :
    (Work.loadEntries n es w).state.routes.entries[i] =
      if n ≤ i.val then es.getD (i.val - n) w.state.routes.entries[i] else w.state.routes.entries[i] := by
  induction es generalizing n w with
  | nil => simp [Work.loadEntries]
  | cons e es ih =>
    rw [List.length_cons] at hend
    have hn : n < 96 := by omega
    rw [Work.loadEntries, dif_pos hn, ih (n + 1) _ (by omega), Work.loadEntry_entries]
    obtain hlt | heq | hgt := Nat.lt_trichotomy i.val n
    · have hne : i ≠ ⟨n, hn⟩ := fun h => absurd (congrArg Fin.val h) (Nat.ne_of_lt hlt)
      rw [if_neg (by omega), if_neg hne, if_neg (by omega)]
    · have hi : i = ⟨n, hn⟩ := Fin.ext heq
      have hsub : i.val - n = 0 := by omega
      rw [if_neg (by omega), if_pos hi, if_pos heq.ge, hsub, List.getD_cons_zero]
    · have hne : i ≠ ⟨n, hn⟩ := fun h => absurd (congrArg Fin.val h) (Nat.ne_of_gt hgt)
      have hsub : i.val - n = i.val - (n + 1) + 1 := by omega
      rw [if_pos (by omega), if_neg hne, if_pos (by omega), hsub, List.getD_cons_succ]

/-- The records to be reset are those marked before, and those of the entries renewed. -/
theorem Work.loadEntries_resets (n : Nat) (es : List RouteEntry) (w : Work) (hend : n + es.length ≤ 96) (i : EntryId) :
    i ∈ (Work.loadEntries n es w).resets ↔
      i ∈ w.resets
      ∨ w.state.routes.entries[i].Renews (Work.loadEntries n es w).state.routes.entries[i] := by
  induction es generalizing n w with
  | nil => simp [Work.loadEntries, RouteEntry.not_renews_self]
  | cons e es ih =>
    rw [List.length_cons] at hend
    have hn : n < 96 := by omega
    rw [Work.loadEntries, dif_pos hn, ih (n + 1) _ (by omega), Work.mem_loadEntry_resets, Work.loadEntry_entries,
      or_assoc]
    by_cases hi : i = ⟨n, hn⟩
    · have hkept : (Work.loadEntries (n + 1) es (w.loadEntry ⟨n, hn⟩ e)).state.routes.entries[i] = e := by
        have hval : i.val = n := congrArg Fin.val hi
        rw [Work.loadEntries_entries (n + 1) es _ (by omega), if_neg (by omega), Work.loadEntry_entries, if_pos hi]
      rw [if_pos hi, hkept, ← hi]
      simp only [RouteEntry.not_renews_self, true_and, or_false]
    · simp only [hi, false_and, false_or, if_false]

theorem getD_map_range {α : Type} (f : Nat → α) (n j : Nat) (d : α) :
    ((List.range n).map f).getD j d = if j < n then f j else d := by
  by_cases h : j < n
  · simp [h]
  · simp [h]

/-! ## The requests (R39, R149, R151) -/

section

variable {w : Work} {b : List Byte}

theorem Work.loadRoutes_of_badValue (h : (b.getD 1 0).toNat = 0 ∨ 12 < (b.getD 1 0).toNat) :
    w.loadRoutes b = .error .badValue := if_pos h

theorem Work.loadRoutes_of_badIndex (hlo : 1 ≤ (b.getD 1 0).toNat) (hhi : (b.getD 1 0).toNat ≤ 12)
    (h : 95 < (b.getD 0 0).toNat ∨ 96 < (b.getD 0 0).toNat + (b.getD 1 0).toNat) :
    w.loadRoutes b = .error .badIndex :=
  (if_neg (by omega)).trans (if_pos h)

theorem Work.loadRoutes_of_placed (hlo : 1 ≤ (b.getD 1 0).toNat) (hhi : (b.getD 1 0).toNat ≤ 12)
    (h : (b.getD 0 0).toNat + (b.getD 1 0).toNat ≤ 96) :
    w.loadRoutes b =
      match checkEntries (b.getD 1 0).toNat (b.drop 2) with
      | .error e => .error e
      | .ok (es, adj) => .ok (.ofAdjusted adj, w.loadEntries (b.getD 0 0).toNat es) :=
  (if_neg (by omega)).trans (if_neg (by omega))

theorem Work.loadCurve_of_index {k : Fin 8} (h : (b.getD 0 0).toNat = k.val) :
    w.loadCurve b =
      .ok (.done, { w with state := { w.state with routes := { w.state.routes with
        curves := w.state.routes.curves.set k { points := Vector.ofFn fun j : Fin 9 => be16 b (1 + 2 * j.val) } } } }) := by
  have hlt : (b.getD 0 0).toNat < 8 := h ▸ k.isLt
  obtain rfl : (⟨(b.getD 0 0).toNat, hlt⟩ : Fin 8) = k := Fin.ext h
  exact dif_pos hlt

end

/-- Settles O33: an entry by its named values, its limits and its bytes; Load Routes by the entries of its body. -/
theorem entryAndPortBytesReadBack : Obligations.EntryAndPortBytesReadBack := by
  refine ⟨fun e h => ⟨checkEntry_bytes h, e.length_bytes⟩, fun p c h => ⟨decodeConfig_bytes p h, c.length_bytes p⟩,
    ?entry, ?loadRoutes, ?loadCurve⟩
  case entry =>
    intro b refused hrefused
    have hmsb : (be16 b 14).msb = true ↔ 32768 ≤ (be16 b 14).toNat := by
      simp [BitVec.msb_eq_decide]
    rw [← decodeSource_eq_none_iff, ← decodeKind_eq_none_iff, ← decodeAveraging_eq_none_iff, ← decodeCurve_eq_none_iff,
      ← hmsb] at hrefused
    by_cases hundecoded : decodeSource (b.getD 0 0) = none ∨ decodeKind (b.getD 3 0) = none
        ∨ decodeAveraging (b.getD 4 0) = none ∨ decodeCurve (b.getD 7 0) = none
    · have hyes : refused := hrefused.mpr (by tauto)
      exact ⟨fun _ => checkEntry_of_undecoded hundecoded, fun h => absurd hyes h, fun h => absurd hyes h⟩
    simp only [not_or, ← ne_eq, Option.ne_none_iff_exists'] at hundecoded
    obtain ⟨⟨source, hsource⟩, ⟨kind, hkind⟩, ⟨w, hw⟩, ⟨curve, hcurve⟩⟩ := hundecoded
    have hcheck := checkEntry_of_decoded hsource hkind hw hcurve
    rw [hsource, hkind, hw, hcurve] at hrefused
    simp only [reduceCtorEq, false_or] at hrefused
    refine ⟨fun h => ?_, fun h hlimits => ?_, fun h hlo hhi => ?_⟩
    · rw [hcheck, if_pos (hrefused.mp h)]
    · rw [hcheck, if_neg (mt hrefused.mpr h), if_neg hlimits]
    · have hslew := mt hrefused.mpr h
      rw [if_neg hslew, if_pos ⟨hlo, hhi⟩, storedWindow_adjusted hkind hw] at hcheck
      exact ⟨_, checkEntry_valid hcheck, hcheck,
        bytes_entryOf hsource hkind hw hcurve (Bool.eq_false_iff.mpr hslew)⟩
  case loadRoutes =>
    rintro w b first count rfl rfl
    have hdrop (j : Nat) : b.drop (2 + 16 * j) = (b.drop 2).drop (16 * j) := (List.drop_drop ..).symm
    refine ⟨Work.loadRoutes_of_badValue, Work.loadRoutes_of_badIndex, fun hlo hhi hend => ⟨?_, ?_⟩⟩
    · intro j st hj hrefused hbefore
      simp only [hdrop] at hrefused hbefore
      change w.loadRoutes b = _
      rw [Work.loadRoutes_of_placed hlo hhi hend, checkEntries_of_refused hj hrefused hbefore]
    · intro es htaken
      simp only [hdrop] at htaken
      let new := (List.range (b.getD 1 0).toNat).map fun j => (es j).1
      have hlength : (b.getD 0 0).toNat + new.length ≤ 96 := by
        rw [List.length_map, List.length_range]
        exact hend
      refine ⟨w.loadEntries (b.getD 0 0).toNat new, ?_, Work.loadEntries_frame _ _ w, fun i => ⟨?_, ?_⟩⟩
      · change w.loadRoutes b = _
        rw [Work.loadRoutes_of_placed hlo hhi hend, checkEntries_of_taken htaken]
        rfl
      · rw [Work.loadEntries_entries _ _ w hlength, getD_map_range]
        by_cases hfirst : (b.getD 0 0).toNat ≤ i.val
        · by_cases hlast : i.val < (b.getD 0 0).toNat + (b.getD 1 0).toNat
          · rw [if_pos hfirst, if_pos (by omega), if_pos ⟨hfirst, hlast⟩]
          · rw [if_pos hfirst, if_neg (by omega), if_neg (fun h => hlast h.2)]
        · rw [if_neg hfirst, if_neg (fun h => hfirst h.1)]
      · exact Work.loadEntries_resets _ _ w hlength i
  case loadCurve =>
    intro w b
    refine ⟨fun h => dif_neg (Nat.not_lt.mpr h), fun k hk => ⟨_, Work.loadCurve_of_index hk, rfl, rfl, fun m hm => ?_,
      fun j => ?_⟩⟩
    · exact Vector.getElem_set_ne k.isLt m.isLt fun h => hm (Fin.ext h.symm)
    · simp

end Sys2Proof.Machine

/-! # Slew, the source of a LEVEL entry, and DELTA entries (chapter 03) -/

namespace Sys2Proof.Machine

/-! ## The slew stage (R28, R62) -/

section Slew

variable {e : RouteEntry} {last target : Int}

theorem RouteEntry.slewStage_of_zero (h : e.slew = 0) : e.slewStage last target = target := if_pos h

theorem RouteEntry.slewStage_of_ne (h : e.slew ≠ 0) :
    e.slewStage last target = e.clamp (last + clampInt (-(e.slew.toNat : Int)) e.slew.toNat (target - last)) := if_neg h

/-- A step held within a bound lies between nothing and the whole step, and within the bound. -/
theorem clampInt_step (bound : Nat) (d : Int) :
    min 0 d ≤ clampInt (-(bound : Int)) bound d ∧ clampInt (-(bound : Int)) bound d ≤ max 0 d
    ∧ (clampInt (-(bound : Int)) bound d).natAbs ≤ bound := by
  unfold clampInt
  split_ifs <;> omega

theorem RouteEntry.clamp_bounds (h : e.lo.toInt ≤ e.hi.toInt) (x : Int) :
    e.lo.toInt ≤ e.clamp x ∧ e.clamp x ≤ e.hi.toInt := clampInt_bounds _ _ x h

theorem RouteEntry.clamp_of_mem {x : Int} (hlo : e.lo.toInt ≤ x) (hhi : x ≤ e.hi.toInt) : e.clamp x = x :=
  clampInt_of_mem _ _ x hlo hhi

/-- Between a last output and a target within the limits the clamp of the slew stage has no effect. -/
theorem RouteEntry.slewStage_of_limits (h : e.slew ≠ 0) (hlo : e.lo.toInt ≤ last) (hhi : last ≤ e.hi.toInt)
    (htlo : e.lo.toInt ≤ target) (hthi : target ≤ e.hi.toInt) :
    e.slewStage last target = last + clampInt (-(e.slew.toNat : Int)) e.slew.toNat (target - last) := by
  obtain ⟨hmin, hmax, -⟩ := clampInt_step e.slew.toNat (target - last)
  rw [RouteEntry.slewStage_of_ne h, RouteEntry.clamp_of_mem (by omega) (by omega)]

theorem RouteEntry.slewStage_limits (hlimits : e.lo.toInt ≤ e.hi.toInt) (htlo : e.lo.toInt ≤ target)
    (hthi : target ≤ e.hi.toInt) : e.lo.toInt ≤ e.slewStage last target ∧ e.slewStage last target ≤ e.hi.toInt := by
  by_cases h : e.slew = 0
  · rw [RouteEntry.slewStage_of_zero h]
    exact ⟨htlo, hthi⟩
  · rw [RouteEntry.slewStage_of_ne h]
    exact RouteEntry.clamp_bounds hlimits _

end Slew

theorem toCue_of_limits {e : RouteEntry} {x : Int} (hlo : e.lo.toInt ≤ x) (hhi : x ≤ e.hi.toInt) :
    (toCue x).toInt = x := by
  have h := cue_range e.lo
  have h' := cue_range e.hi
  exact toCue_toInt x (by omega) (by omega)

/-- A LEVEL entry without a frame that carries its slot slews toward its neutral (R51, R62). -/
theorem RouteEntry.compose_level_of_no_source {e : RouteEntry} {sc : Scene} {r : Runtime} (hkind : e.kind = .level)
    (hmode : sc.mode = .run) (hsource : e.levelSource sc.ring sc.targetAge = none) :
    e.compose sc r =
      { record := { r with last := toCue (e.slewStage (e.clamp r.last.toInt) e.neutral.toInt) }
        value := toCue (e.slewStage (e.clamp r.last.toInt) e.neutral.toInt), sat := false, limited := false } := by
  rw [RouteEntry.compose_of_level hkind]
  simp only [RouteEntry.level, RouteEntry.levelRun, Runtime.clampLast, hmode, hsource, RouteEntry.toCue_clamp]

/-- A LEVEL entry in RUN slews toward a target within its limits. -/
theorem RouteEntry.compose_level_run {e : RouteEntry} {sc : Scene} {r : Runtime} (hvalid : e.Valid)
    (hkind : e.kind = .level) (hmode : sc.mode = .run) :
    ∃ target, e.lo.toInt ≤ target ∧ target ≤ e.hi.toInt
      ∧ (e.compose sc r).value = toCue (e.slewStage (e.clamp r.last.toInt) target)
      ∧ (e.compose sc r).record = { r with last := (e.compose sc r).value }
      ∧ (e.levelSource sc.ring sc.targetAge = none → target = e.neutral.toInt) := by
  obtain ⟨hlo, hhi, -⟩ := hvalid
  cases hsource : e.levelSource sc.ring sc.targetAge with
  | none =>
    rw [RouteEntry.compose_level_of_no_source hkind hmode hsource]
    exact ⟨_, hlo, hhi, rfl, rfl, fun _ => rfl⟩
  | some v =>
    obtain ⟨htlo, hthi⟩ := RouteEntry.clamp_bounds (hlo.trans hhi)
      (curveStage (e.theCurve sc.curves) (gainStage e.gain.toNat sc.scale (signStage (e.negates sc.mirror) v).1).1)
    rw [RouteEntry.compose_level_of_runs hkind ((RouteEntry.stagesRunOn_level_iff hkind).mpr ⟨hmode, hsource⟩)]
    exact ⟨_, htlo, hthi, rfl, rfl, nofun⟩

/-- Settles O39. -/
theorem slewStageLimitsTheStep : Obligations.SlewStageLimitsTheStep := by
  refine ⟨fun _ _ _ => RouteEntry.slewStage_of_zero, fun _ _ _ => RouteEntry.slewStage_of_ne, ?_, ?_⟩
  · intro e last target hslew hlo hhi htlo hthi
    have hlimits := cue_range e.lo
    have hlimits' := cue_range e.hi
    have hstep := clampInt_step e.slew.toNat (target - last)
    rw [RouteEntry.slewStage_of_limits hslew hlo hhi htlo hthi]
    exact ⟨by omega, by omega, rfl, by omega, by omega, by omega⟩
  · intro e sc r hvalid hkind hmode
    obtain ⟨target, htlo, hthi, hvalue, hrecord, hneutral⟩ := RouteEntry.compose_level_run (r := r) hvalid hkind hmode
    obtain ⟨hlo, hhi⟩ :=
      RouteEntry.slewStage_limits (last := e.clamp r.last.toInt) (hvalid.1.trans hvalid.2.1) htlo hthi
    have hcue : (e.compose sc r).value.toInt = e.slewStage (e.clamp r.last.toInt) target := by
      rw [hvalue, toCue_of_limits hlo hhi]
    exact ⟨hcue ▸ hlo, hcue ▸ hhi, hrecord, fun hnone => hneutral hnone ▸ hcue⟩

/-! ## The source value of a LEVEL entry (R38, R50, R51) -/

theorem take_drop_eq_filterMap {α : Type} (l : List α) (a n : Nat) :
    (l.drop a).take n = (List.range n).filterMap fun j => l[a + j]? := by
  induction n with
  | zero => rfl
  | succ n ih =>
    have hlast : [n].filterMap (fun j => l[a + j]?) = l[a + n]?.toList := by
      cases h : l[a + n]? <;> simp [h]
    rw [List.take_add_one, ih, List.getElem?_drop, List.range_succ, List.filterMap_append, hlast]

/-- The frames near the target that carry a slot, by their ages. -/
theorem RouteEntry.reads_take_drop {e : RouteEntry} {slot : Fin 48} (h : e.source = .slot slot) (ring : List Record)
    (age n : Nat) :
    e.reads ((ring.drop age).take n) = (List.range n).filterMap fun j =>
      (ring[age + j]?).bind fun r => (r.values[slot.val]?).map BitVec.toInt := by
  have hread : e.read = fun r => (r.values[slot.val]?).map BitVec.toInt := by
    funext r
    simp only [RouteEntry.read, h]
  rw [RouteEntry.reads, take_drop_eq_filterMap, List.filterMap_filterMap, hread]

theorem RouteEntry.levelSource_of_near {e : RouteEntry} {ring : List Record} {age : Nat}
    (h : e.reads ((ring.drop age).take e.window.frames) ≠ []) :
    e.levelSource ring age =
      some ((e.reads ((ring.drop age).take e.window.frames)).sum.tdiv
        (e.reads ((ring.drop age).take e.window.frames)).length) := if_neg h

theorem RouteEntry.levelSource_of_far {e : RouteEntry} {ring : List Record} {age : Nat}
    (h : e.reads ((ring.drop age).take e.window.frames) = []) :
    e.levelSource ring age = (ring.drop (age + e.window.frames)).findSome? e.read := by
  rw [← List.head?_filterMap]
  exact if_pos h

/-- The first of some records that carries a value, by its position. -/
theorem findSome?_drop_eq_some {α β : Type} {l : List α} {f : α → Option β} {m k : Nat} {x : α} {y : β} (hk : m ≤ k)
    (hx : l[k]? = some x) (hy : f x = some y) (hbefore : ∀ j z, m ≤ j → j < k → l[j]? = some z → f z = none) :
    (l.drop m).findSome? f = some y := by
  have hget : (l.drop m)[k - m]? = some x := by
    rw [List.getElem?_drop, Nat.add_sub_cancel' hk, hx]
  obtain ⟨hlt, rfl⟩ := List.getElem?_eq_some_iff.mp hget
  refine List.findSome?_eq_some_iff.mpr ⟨(l.drop m).take (k - m), _, (l.drop m).drop (k - m + 1), ?_, hy, fun z hz => ?_⟩
  · rw [List.getElem_cons_drop, List.take_append_drop]
  · obtain ⟨j, hj, rfl⟩ := List.getElem_of_mem hz
    have hj' : j < k - m ∧ j < (l.drop m).length := by
      rw [List.length_take] at hj
      omega
    refine hbefore (m + j) _ (Nat.le_add_right m j) (by omega) ?_
    rw [List.getElem_take, ← List.getElem?_drop, List.getElem?_eq_getElem hj'.2]

/-- The average of one value is that value. -/
theorem tdiv_sum_map_const {α : Type} {l : List α} (c : Int) (h : l ≠ []) :
    (l.map fun _ => c).sum.tdiv (l.map fun _ => c).length = c := by
  have hlength : (l.length : Int) ≠ 0 := by
    have := List.length_pos_iff.mpr h
    omega
  rw [List.map_const', List.sum_replicate, List.length_replicate, nsmul_eq_mul, Int.mul_tdiv_cancel_left c hlength]

/-- Settles O40. -/
theorem levelSourceAveragesItsFrames : Obligations.LevelSourceAveragesItsFrames := by
  refine ⟨?slot, ?constant⟩
  case slot =>
    rintro e ring age slot near hslot rfl
    have hread (r : Record) : e.read r = (r.values[slot.val]?).map BitVec.toInt := by
      simp only [RouteEntry.read, hslot]
    rw [← RouteEntry.reads_take_drop hslot]
    refine ⟨RouteEntry.levelSource_of_near, fun hnear => ⟨fun k r v hk hr hv hbefore => ?_, fun hnone => ?_⟩⟩
    · rw [RouteEntry.levelSource_of_far hnear]
      refine findSome?_drop_eq_some hk hr (by rw [hread, hv]; rfl) fun j q hj hjk hq => ?_
      rw [hread, hbefore j q hj hjk hq]
      rfl
    · rw [RouteEntry.levelSource_of_far hnear, List.findSome?_eq_none_iff]
      intro r hr
      obtain ⟨j, hj, rfl⟩ := List.getElem_of_mem hr
      have hget := List.getElem?_eq_getElem hj
      rw [List.getElem?_drop] at hget
      rw [hread, hnone _ _ (Nat.le_add_right _ j) hget]
      rfl
  case constant =>
    intro e ring age hconstant hage
    have hread : e.read = fun _ => some e.constant.toInt := by
      funext r
      simp only [RouteEntry.read, hconstant]
    have hreads (rs : List Record) : e.reads rs = rs.map fun _ => e.constant.toInt := by
      rw [RouteEntry.reads, hread]
      exact congrFun List.filterMap_eq_map rs
    have hsome : (ring.drop age).take e.window.frames ≠ [] := by
      have hframes : 0 < e.window.frames := by cases e.window <;> decide
      rw [← List.length_pos_iff, List.length_take, List.length_drop]
      omega
    have hnear : e.reads ((ring.drop age).take e.window.frames) ≠ [] := by
      rw [hreads]
      exact mt List.map_eq_nil_iff.mp hsome
    rw [RouteEntry.levelSource_of_near hnear, hreads, tdiv_sum_map_const _ hsome]

/-! ## A DELTA entry (R49, R52 to R55, R115) -/

/-- What a residue keeps of a value is the value, unless it was limited (R54). -/
theorem limitResidue_of_not_limited {x : Int} (h : (limitResidue x).2 = false) : (limitResidue x).1.toInt = x := by
  have hin : ¬ (x < -1073741824 ∨ 1073741824 < x) := fun hout => by
    rw [(limitResidue_limited x).mpr hout] at h
    cases h
  rw [limitResidue_toInt, clampInt_of_mem _ _ x (by omega) (by omega)]

/-- Settles O41. -/
theorem deltaConservesItsTotal : Obligations.DeltaConservesItsTotal := by
  refine ⟨Scene.emits_iff, ?_⟩
  intro e sc r total pre hkind htotal hpre
  obtain rfl : total = e.total r sc.span := htotal
  by_cases hemits : sc.emits = true
  · rw [if_pos hemits] at hpre
    subst hpre
    rw [RouteEntry.compose_delta_of_emits hkind hemits]
    refine ⟨limitResidue_toInt _, limitResidue_limited _, fun hkept => ?_, rfl, fun hidle => ?_⟩
    · exact (congrArg (_ + ·) (limitResidue_of_not_limited hkept)).trans (add_sub_cancel _ _)
    · exact absurd hemits (Bool.eq_false_iff.mp hidle)
  · rw [if_neg hemits] at hpre
    subst hpre
    rw [RouteEntry.compose_delta_of_not_emits hkind hemits, sub_zero]
    refine ⟨limitResidue_toInt _, limitResidue_limited _, fun hkept => ?_, rfl, fun _ => ⟨rfl, rfl, rfl⟩⟩
    exact (zero_add _).trans (limitResidue_of_not_limited hkept)

end Sys2Proof.Machine

/-! # PEAK entries, and LEVEL entries of a degraded window (chapters 03 and 06) -/

namespace Sys2Proof.Machine

/-! ## The winner of a PEAK entry (R56) -/

/-- A value is the earliest of those with the greatest absolute value. -/
def FirstGreatest (xs : List Int) (v : Int) : Prop :=
  ∃ i : Nat, xs[i]? = some v
    ∧ (∀ (j : Nat) (x : Int), j < i → xs[j]? = some x → x.natAbs < v.natAbs) ∧ ∀ x ∈ xs, x.natAbs ≤ v.natAbs

section

variable {xs : List Int} {b y : Int}

/-- A greater value at the end is the new winner. -/
theorem FirstGreatest.append_of_lt (h : FirstGreatest xs b) (hlt : b.natAbs < y.natAbs) :
    FirstGreatest (xs ++ [y]) y := by
  obtain ⟨-, -, -, hall⟩ := h
  refine ⟨xs.length, by simp, fun j x hj hx => ?_, fun x hx => ?_⟩
  · rw [List.getElem?_append_left hj] at hx
    exact (hall x (List.mem_of_getElem? hx)).trans_lt hlt
  · obtain hmem | rfl := List.mem_append.mp hx |>.imp_right List.mem_singleton.mp
    · exact (hall x hmem).trans hlt.le
    · exact le_refl _

/-- A value at the end that is not greater leaves the winner. -/
theorem FirstGreatest.append_of_ge (h : FirstGreatest xs b) (hge : y.natAbs ≤ b.natAbs) :
    FirstGreatest (xs ++ [y]) b := by
  obtain ⟨i, hi, hbefore, hall⟩ := h
  obtain ⟨hlt, -⟩ := List.getElem?_eq_some_iff.mp hi
  refine ⟨i, ?_, fun j x hj hx => ?_, fun x hx => ?_⟩
  · rw [List.getElem?_append_left hlt, hi]
  · rw [List.getElem?_append_left (hj.trans hlt)] at hx
    exact hbefore j x hj hx
  · obtain hmem | rfl := List.mem_append.mp hx |>.imp_right List.mem_singleton.mp
    · exact hall x hmem
    · exact hge

theorem FirstGreatest.mem (h : FirstGreatest xs b) : b ∈ xs := by
  obtain ⟨i, hi, -⟩ := h
  exact List.mem_of_getElem? hi

end

theorem peakOf_append_singleton (xs : List Int) (y : Int) :
    peakOf (xs ++ [y]) = some ((peakOf xs).elim y fun b => if b.natAbs < y.natAbs then y else b) := by
  cases xs with
  | nil => rfl
  | cons x xs => simp [peakOf]

theorem peakOf_firstGreatest {xs : List Int} {v : Int} (h : peakOf xs = some v) : FirstGreatest xs v := by
  induction xs using List.reverseRecOn generalizing v with
  | nil => cases h
  | append_singleton xs y ih =>
    rw [peakOf_append_singleton] at h
    cases hbest : peakOf xs with
    | none =>
      obtain rfl : xs = [] := by
        cases xs with
        | nil => rfl
        | cons x xs => cases hbest
      obtain rfl : y = v := Option.some.inj h
      exact ⟨0, rfl, fun j _ hj => absurd hj (Nat.not_lt_zero j), fun x hx => by rw [List.mem_singleton.mp hx]⟩
    | some b =>
      rw [hbest, Option.elim_some, Option.some.injEq] at h
      by_cases hlt : b.natAbs < y.natAbs
      · rw [if_pos hlt] at h
        exact h ▸ (ih hbest).append_of_lt hlt
      · rw [if_neg hlt] at h
        exact h ▸ (ih hbest).append_of_ge (Nat.le_of_not_lt hlt)

theorem peakOf_isSome {xs : List Int} (h : xs ≠ []) : (peakOf xs).isSome = true := by
  cases xs with
  | nil => exact absurd rfl h
  | cons x xs => rfl

theorem RouteEntry.candidates_eq (e : RouteEntry) (r : Runtime) (span : List Record) :
    e.candidates r span = (match r.carry with | none => [] | some c => [c.toInt]) ++ span.filterMap e.read := by
  unfold RouteEntry.candidates
  cases r.carry <;> rfl

/-- A read value is a cue value. -/
theorem RouteEntry.read_cue {e : RouteEntry} {r : Record} {x : Int} (h : e.read r = some x) : ∃ c : Cue, c.toInt = x := by
  unfold RouteEntry.read at h
  split at h
  · obtain ⟨c, -, hc⟩ := Option.map_eq_some_iff.mp h
    exact ⟨c, hc⟩
  · exact ⟨_, Option.some.inj h⟩

theorem RouteEntry.candidates_cue {e : RouteEntry} {r : Runtime} {span : List Record} {x : Int}
    (h : x ∈ e.candidates r span) : ∃ c : Cue, c.toInt = x := by
  obtain hcarry | hread := List.mem_append.mp h
  · obtain ⟨c, -, hc⟩ := Option.map_eq_some_iff.mp (Option.mem_toList.mp hcarry)
    exact ⟨c, hc⟩
  · obtain ⟨q, -, hq⟩ := List.mem_filterMap.mp hread
    exact RouteEntry.read_cue hq

/-- The carry kept is the winner itself, since every candidate is a cue value. -/
theorem RouteEntry.carry_toInt (e : RouteEntry) (r : Runtime) (span : List Record) :
    ((peakOf (e.candidates r span)).map toCue).map BitVec.toInt = peakOf (e.candidates r span) := by
  cases hwinner : peakOf (e.candidates r span) with
  | none => rfl
  | some v =>
    obtain ⟨c, rfl⟩ := RouteEntry.candidates_cue (peakOf_firstGreatest hwinner).mem
    obtain ⟨hlo, hhi⟩ := cue_range c
    exact congrArg some (toCue_toInt _ hlo hhi)

/-- Settles O42. -/
theorem peakKeepsTheGreatestCandidate : Obligations.PeakKeepsTheGreatestCandidate := by
  refine ⟨Scene.emits_iff, rfl, fun _ _ => peakOf_firstGreatest, fun _ => peakOf_isSome, ?_, ?_⟩
  · intro e r span
    rw [RouteEntry.candidates_eq] <;> rfl
  · intro e sc r hkind
    by_cases hemits : sc.emits = true
    · rw [RouteEntry.compose_peak_of_emits hkind hemits]
      exact ⟨rfl, rfl, fun _ => ⟨rfl, rfl⟩, fun hidle => absurd hemits (Bool.eq_false_iff.mp hidle)⟩
    · rw [RouteEntry.compose_peak_of_not_emits hkind hemits]
      exact ⟨rfl, rfl, fun h => absurd h hemits, fun _ => ⟨e.carry_toInt r sc.span, rfl, rfl, rfl⟩⟩

/-! ## The fade step (R112) -/

section Fade

variable {e : RouteEntry} {step : Nat} {last : Int}

theorem RouteEntry.fade_of_near (hvalid : e.Valid) (h : (e.neutral.toInt - last).natAbs ≤ step) :
    e.fade step last = e.neutral.toInt := by
  unfold RouteEntry.fade
  dsimp only
  rw [if_pos h, RouteEntry.clamp_of_mem hvalid.1 hvalid.2.1]

theorem RouteEntry.fade_of_far (hvalid : e.Valid) (hlo : e.lo.toInt ≤ last) (hhi : last ≤ e.hi.toInt)
    (h : step < (e.neutral.toInt - last).natAbs) :
    e.fade step last = if last < e.neutral.toInt then last + step else last - step := by
  obtain ⟨hnlo, hnhi, -⟩ := hvalid
  unfold RouteEntry.fade
  dsimp only
  rw [if_neg (Nat.not_le.mpr h)]
  by_cases hbelow : last < e.neutral.toInt
  · rw [if_pos (by omega), if_pos hbelow, RouteEntry.clamp_of_mem (by omega) (by omega)]
  · rw [if_neg (by omega), if_neg hbelow, RouteEntry.clamp_of_mem (by omega) (by omega)]

/-- A fade step shortens the distance to the neutral by the step, down to 0. -/
theorem RouteEntry.fade_distance (hvalid : e.Valid) (hlo : e.lo.toInt ≤ last) (hhi : last ≤ e.hi.toInt) :
    (e.neutral.toInt - e.fade step last).natAbs = (e.neutral.toInt - last).natAbs - step := by
  by_cases hnear : (e.neutral.toInt - last).natAbs ≤ step
  · rw [RouteEntry.fade_of_near hvalid hnear]
    omega
  · rw [RouteEntry.fade_of_far hvalid hlo hhi (Nat.lt_of_not_le hnear)]
    split_ifs <;> omega

theorem RouteEntry.fade_limits (hvalid : e.Valid) (step : Nat) (last : Int) :
    e.lo.toInt ≤ e.fade step last ∧ e.fade step last ≤ e.hi.toInt :=
  RouteEntry.clamp_bounds (hvalid.1.trans hvalid.2.1) _

/-- The neutral is reached at the composition whose count is the distance over the step, rounded up. -/
theorem RouteEntry.iterate_fade_iff (hvalid : e.Valid) (hlo : e.lo.toInt ≤ last) (hhi : last ≤ e.hi.toInt) (k : Nat) :
    (e.fade step)^[k] last = e.neutral.toInt ↔ (e.neutral.toInt - last).natAbs ≤ k * step := by
  induction k generalizing last with
  | zero =>
    rw [Function.iterate_zero_apply]
    omega
  | succ k ih =>
    obtain ⟨hlo', hhi'⟩ := RouteEntry.fade_limits hvalid step last
    rw [Function.iterate_succ_apply, ih hlo' hhi', RouteEntry.fade_distance hvalid hlo hhi, Nat.succ_mul]
    omega

end Fade

/-! ## A LEVEL entry in the degraded modes (R111, R112, R114) -/

section Degraded

variable {e : RouteEntry} {sc : Scene} {r : Runtime}

theorem RouteEntry.compose_level_fade (hkind : e.kind = .level) (hmode : sc.mode = .fadeStep) :
    e.compose sc r =
      { record := { r with last := toCue (e.fade sc.fadeStep (e.clamp r.last.toInt)) }
        value := toCue (e.fade sc.fadeStep (e.clamp r.last.toInt)), sat := false, limited := false } := by
  rw [RouteEntry.compose_of_level hkind]
  simp only [RouteEntry.level, hmode, Runtime.clampLast, RouteEntry.toCue_clamp]

theorem RouteEntry.compose_level_hold (hkind : e.kind = .level) (hmode : sc.mode = .hold) :
    e.compose sc r =
      { record := { r with last := toCue (e.clamp r.last.toInt) }
        value := toCue (e.clamp r.last.toInt), sat := false, limited := false } := by
  rw [RouteEntry.compose_of_level hkind]
  simp only [RouteEntry.level, hmode, Runtime.clampLast]

theorem RouteEntry.compose_level_settle (hkind : e.kind = .level) (hmode : sc.mode = .settle) :
    e.compose sc r =
      { record := { r with last := e.neutral }, value := e.neutral, sat := false, limited := false } := by
  rw [RouteEntry.compose_of_level hkind]
  simp only [RouteEntry.level, hmode, Runtime.clampLast]

end Degraded

/-- Settles O43. -/
theorem fadeStepMovesTowardNeutral : Obligations.FadeStepMovesTowardNeutral := by
  refine ⟨fun e step last hvalid _ hlo hhi => ?_, fun e sc r _ hkind hmode => ?_, fun e sc r hkind hmode => ?_,
    fun e sc r hkind hmode => ?_⟩
  · obtain ⟨hflo, hfhi⟩ := RouteEntry.fade_limits hvalid step last
    exact ⟨RouteEntry.fade_of_near hvalid, RouteEntry.fade_of_far hvalid hlo hhi, hflo, hfhi,
      RouteEntry.iterate_fade_iff hvalid hlo hhi⟩
  · have hcompose := RouteEntry.compose_level_fade (r := r) hkind hmode
    have hcue : (toCue (e.fade sc.fadeStep (e.clamp r.last.toInt))).toInt = e.fade sc.fadeStep (e.clamp r.last.toInt) :=
      e.toCue_clamp _
    rw [hcompose]
    refine ⟨hcue, rfl, rfl, rfl, fun slew tr => ?_⟩
    exact RouteEntry.compose_level_fade (e := { e with slew := slew }) (sc := { sc with transmitted := tr }) hkind hmode
  · rw [RouteEntry.compose_level_hold hkind hmode]
    exact ⟨e.toCue_clamp _, rfl, rfl, rfl⟩
  · rw [RouteEntry.compose_level_settle hkind hmode]
    exact ⟨rfl, rfl, rfl, rfl⟩

end Sys2Proof.Machine
